-- ==== Sys2Proof/Config.lean ====
section
/-!
DEFINITION. What the spec names as a parameter of a neutral model, at the value the numbered rules give it, and the
one thing the spec leaves without a value: the names of one-bit choices (spec 92_eei_decisions.md D8, D16;
93_implementation_defined.md U1, U2, U9; 41_register_write_decoder.md R113).
-/

namespace Sys2Proof

/-- The values the parameter `CLASS_88_89` may take (93_implementation_defined.md U1). -/
inductive Class8889 where
  | unrecognized
  | unhandled
  deriving DecidableEq, Repr

/-- The three readings of ASD's label "23-bit" for the composer's result (93_implementation_defined.md U2). -/
inductive AcWidthReading where
  /-- `{high, mid, low} << 1`, 25 bits, no truncation. -/
  | formula
  /-- `({high, mid, low} << 1) & 0x7FFFFF`. -/
  | resultMask23
  /-- `{high & 0x7F, mid, low} << 1`. -/
  | highMask7
  deriving DecidableEq, Repr

/-- The one-bit fields that ASD calls a choice without saying which value is which (R113). -/
inductive OneBitChoice where
  /-- `mode_name` of index 0x81. -/
  | modeName
  /-- `pal_ntsc` of index 0x81. -/
  | palNtsc
  /-- `vscroll_mode` of index 0x8B. -/
  | vscrollMode
  /-- `width_320` of index 0x8C. -/
  | width320
  /-- `edge` of index 0x91 (right or left). -/
  | edge91
  /-- `edge` of index 0x92 (bottom or top). -/
  | edge92
  deriving DecidableEq, Repr

/-- `CLASS_88_89`: R92 and R93 give UNRECOGNIZED. DESIGN CHOICE (the spec's own decision D8); unsafe (log 7). -/
def Config.class8889 : Class8889 := .unrecognized

/-- `AC_WIDTH_READING`: R162 gives the formula. DESIGN CHOICE (the spec's own decision D16); unsafe for
`high >= 0x40` (log 8). -/
def Config.acWidthReading : AcWidthReading := .formula

/-- The name of each value of a one-bit choice. R113: "not in source", so it is a free value with no body
(DESIGN CHOICE, safe, log 15). No output of the block depends on it. -/
opaque Config.oneBitName : OneBitChoice → BitVec 1 → String

end Sys2Proof
end

