-- ==== Sys2Proof/Word.lean ====
section
/-!
DEFINITION. The words the block is given: plain widths, and a command word together with the width the caller
declares for it (spec 10_state.md R21, 30_encoding.md R47, R51).
-/

namespace Sys2Proof

/-- An 8-bit index, value or composer byte. -/
abbrev Byte := BitVec 8

/-- A 16-bit word, or one half of a 32-bit word. -/
abbrev Half := BitVec 16

/-- A 32-bit word, as on the port `in.word`. -/
abbrev Word := BitVec 32

/-- A command word with its declared width. The width is part of the word and is never derived from its value
(R21, R47, R59). `ac24` is the composer's operand bundle `{high, mid, low}` (R51; decision D28, log 22). -/
inductive CommandWord where
  | w16 (h : Half)
  | w32 (w : Word)
  | ac24 (b : BitVec 24)
  deriving DecidableEq, Repr

/-- The declared width in bits, as the column `width` of the opcode table gives it (R63). -/
def CommandWord.width : CommandWord → Nat
  | .w16 _ => 16
  | .w32 _ => 32
  | .ac24 _ => 24

/-- The word's bits, bit 0 least significant, zero-extended to 32 bits (R9). -/
def CommandWord.bits : CommandWord → Word
  | .w16 h => h.setWidth 32
  | .w32 w => w
  | .ac24 b => b.setWidth 32

end Sys2Proof
end

