-- ==== Sys2Proof/Machine/State.lean ====
section
/-!
DEFINITION. The machine's state: the block's input and output ports (spec 10_state.md R19, R20) and the vectors its
caller has yet to present. The block itself has no state (R13); State says what stands on its wires (log 1).
-/

namespace Sys2Proof.Machine

/-- Faults. There is none: "CWD raises no exception, trap, fault or error, for any input" (60_exceptions.md R170).
The type has no constructor, so no meaning can end in one (log 20). -/
inductive Fault
  deriving DecidableEq, Repr

/-- Refusals. -/
inductive Refusal where
  /-- Raised by an arm of `exec` whose instruction has no meaning yet. Safe: the run stops. No arm raises it. -/
  | notModelled (mnemonic : String)
  deriving DecidableEq, Repr

/-- The input ports (R19). Every bit is 0 or 1 (decision D19, log 18). -/
structure Inputs where
  /-- `in.word`: on the 16-bit path only bits [15:0] are read. -/
  word : Word
  /-- `in.width32`: false, the word is 16 bits wide, true, it is 32 bits wide. -/
  width32 : Bool
  /-- `in.extended_vram`: the coprocessor has the larger memory configuration. -/
  extendedVram : Bool
  /-- `in.mode_320`: read by no rule (R83, log 14). -/
  mode320 : Bool
  /-- `in.ac_low`. -/
  acLow : Byte
  /-- `in.ac_mid`. -/
  acMid : Byte
  /-- `in.ac_high`. -/
  acHigh : Byte
  deriving DecidableEq, Repr

/-- The three result kinds (R20, 40_decode_entry.md R71). -/
inductive Kind where
  | single
  | pair
  | memacc
  deriving DecidableEq, Repr

/-- The three classes of a RegisterMeaning (R23, 41_register_write_decoder.md R82). -/
inductive RegClass where
  | unrecognized
  | unhandled
  | decoded
  deriving DecidableEq, Repr

/-- The ports of a memory-access descriptor (R24, R25). -/
inductive Port where
  | vramRead
  | vramWrite
  | vramByteRead
  | cramRead
  | cramWrite
  | vsramRead
  | vsramWrite
  | unknown
  deriving DecidableEq, Repr

/-- RegisterWrite (R22). -/
structure RegisterWrite where
  index : Byte
  value : Byte
  deriving DecidableEq, Repr

/-- RegisterMeaning (R23): a class and six slots of 17 bits. Which field a slot holds depends on the index. -/
structure RegisterMeaning where
  cls : RegClass
  f0 : BitVec 17
  f1 : BitVec 17
  f2 : BitVec 17
  f3 : BitVec 17
  f4 : BitVec 17
  f5 : BitVec 17
  deriving DecidableEq, Repr

/-- DmaTransferLength (R26). -/
structure DmaTransferLength where
  length : BitVec 16
  byteCount : BitVec 17
  deriving DecidableEq, Repr

/-- MemoryAccessDescriptor with the type code the block also outputs (R20, R24). -/
structure Mad where
  code : BitVec 4
  port : Port
  address : BitVec 16
  dmaEnabled : Bool
  vramToVramCopy : Bool
  deriving DecidableEq, Repr

/-- The outputs that carry the decode result (R20). -/
structure ResultPorts where
  kind : Kind
  rw0 : RegisterWrite
  rm0 : RegisterMeaning
  rw1 : RegisterWrite
  rm1 : RegisterMeaning
  dmaLenValid : Bool
  dmaLength : BitVec 16
  dmaByteCount : BitVec 17
  mad : Mad
  deriving DecidableEq, Repr

/-- All output ports: the decode result, and `out.ac_address`, which is no part of it (R20, R78). -/
structure Outputs where
  res : ResultPorts
  acAddress : BitVec 25
  deriving DecidableEq, Repr

/-- The state of the model. -/
structure State where
  /-- What stands on the input ports. -/
  inp : Inputs
  /-- What the block drives on its output ports. -/
  out : Outputs
  /-- The MODEL's own field: the vectors the caller will present, the next one first (R15, log 2). -/
  caller : List Inputs
  deriving DecidableEq, Repr

/-! ## All-zero values, which R76 drives on outputs a result does not use -/

/-- Index and value zero. -/
def RegisterWrite.zero : RegisterWrite := ⟨0, 0⟩

/-- A meaning with no fields. -/
def RegisterMeaning.empty (c : RegClass) : RegisterMeaning := ⟨c, 0, 0, 0, 0, 0, 0⟩

/-- All bits zero: class code 0 is UNRECOGNIZED (R76). -/
def RegisterMeaning.zero : RegisterMeaning := RegisterMeaning.empty .unrecognized

/-- All bits zero: port code 0 is VRAM_READ (R76). -/
def Mad.zero : Mad := ⟨0, .vramRead, 0, false, false⟩

/-- All input ports zero. -/
def Inputs.zero : Inputs := ⟨0, false, false, false, 0, 0, 0⟩

/-- All result outputs zero: kind code 0 is SINGLE. -/
def ResultPorts.zero : ResultPorts :=
  ⟨.single, .zero, .zero, .zero, .zero, false, 0, 0, .zero⟩

/-- The model's first state. The block has no reset (R18, 70_reset_and_hazards.md R190): the inputs are all zero
(DESIGN CHOICE, unsafe, log 3), and the outputs are what the block drives for those inputs, which is zero on every
output port; the caller has presented nothing and has nothing to present. -/
def State.reset : State :=
  { inp := Inputs.zero
    out := { res := ResultPorts.zero, acAddress := 0 }
    caller := [] }

end Sys2Proof.Machine
end

