-- ==== Sys2Proof/Machine/Operands.lean ====
section
/-!
DEFINITION. The operand forms of the block: the bit-field extractor, the split of a half into index and value, and
the assembly of addresses and lengths (spec 30_encoding.md R52, R53; 41_register_write_decoder.md R80, R81;
42_control_word_classifier.md R124, R135; 43_dma_length_correlator.md R152, R153; 44_address_composer.md R160, R162).
-/

namespace Sys2Proof.Machine

/-- `EXTRACT(v, lo, w)`: the `w`-bit number at bit `lo`, right-justified; bits above `v`'s width read as 0 (R80). -/
def extract {n : Nat} (v : BitVec n) (lo w : Nat) : BitVec w :=
  v.extractLsb' lo w

/-- A field of a register value in its slot: right-justified, zero-extended, then shifted left (R53, R80, R82). -/
def slot (v : Byte) (lo w shift : Nat) : BitVec 17 :=
  (extract v lo w).setWidth 17 <<< shift

/-- SPLIT: the upper byte is the index, the lower the value; no bit is tested first (R81). -/
def split (h : Half) : RegisterWrite :=
  { index := extract h 8 8, value := extract h 0 8 }

/-- The high half, `W[31:16]` (R120). -/
def hiHalf (w : Word) : Half := extract w 16 16

/-- The low half, `W[15:0]` (R120). -/
def loHalf (w : Word) : Half := extract w 0 16

/-- `code = CD3*8 + CD2*4 + CD1*2 + CD0` (R124). -/
def typeCode (cd3 cd2 cd1 cd0 : Bool) : BitVec 4 :=
  ((BitVec.ofBool cd3).setWidth 4 <<< 3) ||| ((BitVec.ofBool cd2).setWidth 4 <<< 2) |||
    ((BitVec.ofBool cd1).setWidth 4 <<< 1) ||| (BitVec.ofBool cd0).setWidth 4

/-- `address = (A_hi << 14) | A_lo`, the full 16-bit composite (R135). -/
def madAddress (aHi : BitVec 2) (aLo : BitVec 14) : BitVec 16 :=
  (aHi.setWidth 16 <<< 14) ||| aLo.setWidth 16

/-- `length = (v94 << 8) | v93` (R152). -/
def dmaLength (v93 v94 : Byte) : BitVec 16 :=
  (v94.setWidth 16 <<< 8) ||| v93.setWidth 16

/-- `byte_count = length * 2`, exact in 17 bits (R153; decision D17, log 16). -/
def dmaByteCount (length : BitVec 16) : BitVec 17 :=
  length.setWidth 17 <<< 1

/-- The assembled 24-bit value `(high << 16) | (mid << 8) | low` (R160). -/
def assembled (low mid high : Byte) : BitVec 24 :=
  (high.setWidth 24 <<< 16) ||| (mid.setWidth 24 <<< 8) ||| low.setWidth 24

/-- The composer under each reading of "23-bit" (R162, 93_implementation_defined.md U2). -/
def composeUnder (r : AcWidthReading) (low mid high : Byte) : BitVec 25 :=
  match r with
  | .formula => (assembled low mid high).setWidth 25 <<< 1
  | .resultMask23 => ((assembled low mid high).setWidth 25 <<< 1) &&& 0x7FFFFF#25
  | .highMask7 => (assembled low mid (high &&& 0x7F#8)).setWidth 25 <<< 1

/-- COMPOSE's result at the reading the rules follow (R160, R162; log 8). -/
def composeAddress (low mid high : Byte) : BitVec 25 :=
  composeUnder Config.acWidthReading low mid high

/-- `compose_address` on unbounded numbers: each is masked to 8 bits first (R161). -/
def composeNumbers (low mid high : Nat) : BitVec 25 :=
  composeAddress (BitVec.ofNat 8 low) (BitVec.ofNat 8 mid) (BitVec.ofNat 8 high)

end Sys2Proof.Machine
end

