-- ==== Sys2Proof/Machine/Ops.lean ====
section
/-!
DEFINITION. The operations over the ports: driving a result, driving the composer's address, presenting a vector.
Every output of the decode result is driven in every evaluation, those it does not use to zero (spec
40_decode_entry.md R76; decision D12, log 10). There is no memory to read or write (20_memory.md R33), no exception to
take and none to return from (60_exceptions.md R170, R175, R176; log 20).
-/

namespace Sys2Proof.Machine

/-- SINGLE: one RegisterWrite and its meaning (R71, R72, R76). -/
def ResultPorts.ofSingle (rw : RegisterWrite) (rm : RegisterMeaning) : ResultPorts :=
  { ResultPorts.zero with kind := .single, rw0 := rw, rm0 := rm }

/-- PAIR: two RegisterWrites, their meanings, and a length where the correlator matched; without one all three
length outputs are zero (R71, R73, R76, R155; decision D24, log 10). -/
def ResultPorts.ofPair (rwA : RegisterWrite) (rmA : RegisterMeaning) (rwB : RegisterWrite) (rmB : RegisterMeaning)
    (len : Option DmaTransferLength) : ResultPorts :=
  { ResultPorts.zero with
    kind := .pair
    rw0 := rwA
    rm0 := rmA
    rw1 := rwB
    rm1 := rmB
    dmaLenValid := len.isSome
    dmaLength := (len.map DmaTransferLength.length).getD 0
    dmaByteCount := (len.map DmaTransferLength.byteCount).getD 0 }

/-- MEMACC: one descriptor (R71, R73, R76). -/
def ResultPorts.ofMad (m : Mad) : ResultPorts :=
  { ResultPorts.zero with kind := .memacc, mad := m }

/-- Drive the decode result; `out.ac_address` is no part of it (R78). -/
def State.driveResult (s : State) (r : ResultPorts) : State :=
  { s with out := { s.out with res := r } }

/-- Drive `out.ac_address`; the decode result is no part of it (R78, R163). -/
def State.driveAc (s : State) (a : BitVec 25) : State :=
  { s with out := { s.out with acAddress := a } }

/-- Put a vector on the input ports. -/
def State.putInputs (s : State) (v : Inputs) : State :=
  { s with inp := v }

/-- Set what the caller has yet to present. -/
def State.setCaller (s : State) (vs : List Inputs) : State :=
  { s with caller := vs }

/-- The vector of the next evaluation: the caller's next, or, where it presents nothing, the one that still stands
on the ports (log 5). -/
def State.nextInputs (s : State) : Inputs :=
  match s.caller with
  | [] => s.inp
  | v :: _ => v

/-- The caller presents its next vector. -/
def State.present (s : State) : State :=
  (s.putInputs s.nextInputs).setCaller s.caller.tail

/-- Go on with `k` from a next state; a fault or a refusal stays as it is. -/
def andThen (o : Host.Outcome State Fault Refusal) (k : State → Host.Outcome State Fault Refusal) :
    Host.Outcome State Fault Refusal :=
  match o with
  | .next s => k s
  | .fault r => .fault r
  | .refused r => .refused r

end Sys2Proof.Machine
end

