-- ==== Sys2Proof/Machine/Compose.lean ====
section
/-!
DEFINITION. The address composer's instruction (spec 44_address_composer.md R160 to R165).
-/

namespace Sys2Proof.Machine

/-- COMPOSE, R160: it drives `out.ac_address` and nothing else, and reads nothing but its three bytes (R163). -/
def execCompose (low mid high : Byte) (s : State) : Host.Outcome State Fault Refusal :=
  .next (s.driveAc (composeAddress low mid high))

end Sys2Proof.Machine
end

