-- ==== Sys2Proof/Syntax.lean ====
section
/-!
DEFINITION. The instructions of the block: one constructor for each row of spec/opcode_table.json
(spec 30_encoding.md R48 to R51, R54, R55, R63). Fields that are ignored bits of a format have no place here (R57).
-/

namespace Sys2Proof

/-- The fields of a MAD32 word that some rule reads, beside the four type-code bits that select the row (R50). -/
structure MadFields where
  /-- `A_lo`, address bits 13 to 0 (`W[29:16]`). -/
  aLo : BitVec 14
  /-- `A_hi`, address bits 15 and 14 (`W[1:0]`). -/
  aHi : BitVec 2
  /-- `DMA` (`W[7]`). -/
  dma : Bool
  /-- `COPY` (`W[6]`). -/
  copy : Bool
  deriving DecidableEq, Repr

/-- One constructor per row of the opcode table. -/
inductive Instr where
  /-- REG80, R84. -/
  | reg80 (value : Byte)
  /-- REG81, R85. -/
  | reg81 (value : Byte)
  /-- REG82, R86. -/
  | reg82 (value : Byte)
  /-- REG83, R87. -/
  | reg83 (value : Byte)
  /-- REG84, R88. -/
  | reg84 (value : Byte)
  /-- REG85, R89. -/
  | reg85 (value : Byte)
  /-- REG86, R90. -/
  | reg86 (value : Byte)
  /-- REG87, R91. -/
  | reg87 (value : Byte)
  /-- REG88, R92. -/
  | reg88 (value : Byte)
  /-- REG89, R93. -/
  | reg89 (value : Byte)
  /-- REG8A, R94. -/
  | reg8A (value : Byte)
  /-- REG8B, R95. -/
  | reg8B (value : Byte)
  /-- REG8C, R96. -/
  | reg8C (value : Byte)
  /-- REG8D, R97. -/
  | reg8D (value : Byte)
  /-- REG8E, R98. -/
  | reg8E (value : Byte)
  /-- REG8F, R99. -/
  | reg8F (value : Byte)
  /-- REG90, R100. -/
  | reg90 (value : Byte)
  /-- REG91, R101. -/
  | reg91 (value : Byte)
  /-- REG92, R102. -/
  | reg92 (value : Byte)
  /-- REG93, R103. -/
  | reg93 (value : Byte)
  /-- REG94, R104. -/
  | reg94 (value : Byte)
  /-- REG95, R105. -/
  | reg95 (value : Byte)
  /-- REG96, R106. -/
  | reg96 (value : Byte)
  /-- REG97, R107. -/
  | reg97 (value : Byte)
  /-- REGUNK, every other index, R108. -/
  | regUnk (index value : Byte)
  /-- PAIR, two register writes in one 32-bit word, R122. -/
  | pair (index0 value0 index1 value1 : Byte)
  /-- MAD.VRAM_READ, type code 0b0000, R126. -/
  | madVramRead (f : MadFields)
  /-- MAD.VRAM_WRITE, type code 0b0001, R127. -/
  | madVramWrite (f : MadFields)
  /-- MAD.UNK2, type code 0b0010, R134. -/
  | madUnk2 (f : MadFields)
  /-- MAD.CRAM_WRITE, type code 0b0011, R128. -/
  | madCramWrite (f : MadFields)
  /-- MAD.VSRAM_READ, type code 0b0100, R129. -/
  | madVsramRead (f : MadFields)
  /-- MAD.VSRAM_WRITE, type code 0b0101, R130. -/
  | madVsramWrite (f : MadFields)
  /-- MAD.UNK6, type code 0b0110, R134. -/
  | madUnk6 (f : MadFields)
  /-- MAD.UNK7, type code 0b0111, R134. -/
  | madUnk7 (f : MadFields)
  /-- MAD.CRAM_READ, type code 0b1000, R131. -/
  | madCramRead (f : MadFields)
  /-- MAD.UNK9, type code 0b1001, R134. -/
  | madUnk9 (f : MadFields)
  /-- MAD.UNKA, type code 0b1010, R134. -/
  | madUnkA (f : MadFields)
  /-- MAD.UNKB, type code 0b1011, R134. -/
  | madUnkB (f : MadFields)
  /-- MAD.VRAM_BYTE_READ, type code 0b1100, R132. -/
  | madVramByteRead (f : MadFields)
  /-- MAD.VRAM_BYTE_READ_ALT, type code 0b1101, R133. -/
  | madVramByteReadAlt (f : MadFields)
  /-- MAD.UNKE, type code 0b1110, R134. -/
  | madUnkE (f : MadFields)
  /-- MAD.UNKF, type code 0b1111, R134. -/
  | madUnkF (f : MadFields)
  /-- COMPOSE, the address composer's operand bundle, R160. -/
  | compose (low mid high : Byte)
  deriving DecidableEq, Repr

end Sys2Proof
end

