-- ==== Sys2Proof/Machine/MemoryAccess.lean ====
section
/-!
DEFINITION. The MAD32 instructions: each drives a MEMACC result, the descriptor of the access the word describes.
Nothing is accessed (spec 20_memory.md R33; 42_control_word_classifier.md R124 to R138).
-/

namespace Sys2Proof.Machine

/-- The type-code table: "unmatched codes resolve to UNKNOWN" (R125). -/
def portOf (code : BitVec 4) : Port :=
  match code with
  | 0b0000#4 => .vramRead
  | 0b0001#4 => .vramWrite
  | 0b0011#4 => .cramWrite
  | 0b0100#4 => .vsramRead
  | 0b0101#4 => .vsramWrite
  | 0b1000#4 => .cramRead
  | 0b1100#4 => .vramByteRead
  | 0b1101#4 => .vramByteRead
  | _ => .unknown

/-- MEMACC's outputs for a type code, its port and the word's other fields; the address and the two flags are read
for every code alike (R135, R136, R137, R140). -/
def driveMad (code : BitVec 4) (port : Port) (f : MadFields) (s : State) : Host.Outcome State Fault Refusal :=
  .next (s.driveResult (ResultPorts.ofMad
    { code := code
      port := port
      address := madAddress f.aHi f.aLo
      dmaEnabled := f.dma
      vramToVramCopy := f.copy }))

/-- MAD.VRAM_READ, R126. -/
def execMadVramRead (f : MadFields) (s : State) : Host.Outcome State Fault Refusal :=
  driveMad 0b0000#4 .vramRead f s

/-- MAD.VRAM_WRITE, R127. -/
def execMadVramWrite (f : MadFields) (s : State) : Host.Outcome State Fault Refusal :=
  driveMad 0b0001#4 .vramWrite f s

/-- MAD.UNK2, R134. -/
def execMadUnk2 (f : MadFields) (s : State) : Host.Outcome State Fault Refusal :=
  driveMad 0b0010#4 .unknown f s

/-- MAD.CRAM_WRITE, R128. -/
def execMadCramWrite (f : MadFields) (s : State) : Host.Outcome State Fault Refusal :=
  driveMad 0b0011#4 .cramWrite f s

/-- MAD.VSRAM_READ, R129. -/
def execMadVsramRead (f : MadFields) (s : State) : Host.Outcome State Fault Refusal :=
  driveMad 0b0100#4 .vsramRead f s

/-- MAD.VSRAM_WRITE, R130. -/
def execMadVsramWrite (f : MadFields) (s : State) : Host.Outcome State Fault Refusal :=
  driveMad 0b0101#4 .vsramWrite f s

/-- MAD.UNK6, R134. -/
def execMadUnk6 (f : MadFields) (s : State) : Host.Outcome State Fault Refusal :=
  driveMad 0b0110#4 .unknown f s

/-- MAD.UNK7, R134. -/
def execMadUnk7 (f : MadFields) (s : State) : Host.Outcome State Fault Refusal :=
  driveMad 0b0111#4 .unknown f s

/-- MAD.CRAM_READ, R131. -/
def execMadCramRead (f : MadFields) (s : State) : Host.Outcome State Fault Refusal :=
  driveMad 0b1000#4 .cramRead f s

/-- MAD.UNK9, R134. -/
def execMadUnk9 (f : MadFields) (s : State) : Host.Outcome State Fault Refusal :=
  driveMad 0b1001#4 .unknown f s

/-- MAD.UNKA, R134. -/
def execMadUnkA (f : MadFields) (s : State) : Host.Outcome State Fault Refusal :=
  driveMad 0b1010#4 .unknown f s

/-- MAD.UNKB, R134. -/
def execMadUnkB (f : MadFields) (s : State) : Host.Outcome State Fault Refusal :=
  driveMad 0b1011#4 .unknown f s

/-- MAD.VRAM_BYTE_READ, R132. -/
def execMadVramByteRead (f : MadFields) (s : State) : Host.Outcome State Fault Refusal :=
  driveMad 0b1100#4 .vramByteRead f s

/-- MAD.VRAM_BYTE_READ_ALT, R133. -/
def execMadVramByteReadAlt (f : MadFields) (s : State) : Host.Outcome State Fault Refusal :=
  driveMad 0b1101#4 .vramByteRead f s

/-- MAD.UNKE, R134. -/
def execMadUnkE (f : MadFields) (s : State) : Host.Outcome State Fault Refusal :=
  driveMad 0b1110#4 .unknown f s

/-- MAD.UNKF, R134. -/
def execMadUnkF (f : MadFields) (s : State) : Host.Outcome State Fault Refusal :=
  driveMad 0b1111#4 .unknown f s

end Sys2Proof.Machine
end

