-- ==== Sys2Proof/Machine/Flags.lean ====
section
/-!
DEFINITION. The block has no status flags (spec 10_state.md R16). What stands here is its one-bit outputs and the
numbers that its enumerated outputs have on the wires (R25; 40_decode_entry.md R71; 41_register_write_decoder.md R80, R82).
-/

namespace Sys2Proof.Machine

/-- A one-bit field "bit b" of a register value: 1 when the bit is 1, no inversion (R80; decision D10, log 13). -/
def flag (v : Byte) (b : Nat) : BitVec 17 :=
  slot v b 1 0

/-- `out.kind` on its two wires; 3 is never produced (R71; decisions D6, D27, log 12). -/
def Kind.code : Kind → BitVec 2
  | .single => 0
  | .pair => 1
  | .memacc => 2

/-- `rm.class` on its two wires; 3 is never produced (R82; decisions D7, D27, log 12). -/
def RegClass.code : RegClass → BitVec 2
  | .unrecognized => 0
  | .unhandled => 1
  | .decoded => 2

/-- `out.mad.port` on its three wires (R25; decision D13, log 12). -/
def Port.code : Port → BitVec 3
  | .vramRead => 0
  | .vramWrite => 1
  | .vramByteRead => 2
  | .cramRead => 3
  | .cramWrite => 4
  | .vsramRead => 5
  | .vsramWrite => 6
  | .unknown => 7

end Sys2Proof.Machine
end

