-- ==== Sys2Proof/Machine/RegisterMeaning.lean ====
section
/-!
DEFINITION. The register-write decoder REGDEC: one meaning per register index, R84 to R108, and the look-up by index
(spec 41_register_write_decoder.md R82).
-/

namespace Sys2Proof.Machine

/-- A DECODED meaning with its fields in slots f0 to f5, the rest zero (R82, R114). -/
def decoded (f0 : BitVec 17) (f1 f2 f3 f4 f5 : BitVec 17 := 0) : RegisterMeaning :=
  ⟨.decoded, f0, f1, f2, f3, f4, f5⟩

/-- The class of indices 0x88 and 0x89 under each value of the parameter CLASS_88_89 (93_implementation_defined.md U1);
the fields are zero under both. -/
def meaning8889 (c : Class8889) : RegisterMeaning :=
  match c with
  | .unrecognized => RegisterMeaning.empty .unrecognized
  | .unhandled => RegisterMeaning.empty .unhandled

/-- 0x80, R84: flags blanking, hint_enable, freeze_on_int2, display_disable. -/
def meaning80 (v : Byte) : RegisterMeaning :=
  decoded (flag v 5) (flag v 4) (flag v 1) (flag v 0)

/-- 0x81, R85: flags vram_size, display_enable, vint_enable, dma_enable, pal_ntsc, mode_name. -/
def meaning81 (v : Byte) : RegisterMeaning :=
  decoded (flag v 7) (flag v 6) (flag v 5) (flag v 4) (flag v 3) (flag v 2)

/-- 0x82, R86: plane_a_base, three or four bits wide by `in.extended_vram`. -/
def meaning82 (v : Byte) (xv : Bool) : RegisterMeaning :=
  decoded (slot v 3 (if xv then 4 else 3) 10)

/-- 0x83, R87: window_base. -/
def meaning83 (v : Byte) : RegisterMeaning :=
  decoded (slot v 0 6 10)

/-- 0x84, R88: plane_b_base, the only field of 17 bits. -/
def meaning84 (v : Byte) : RegisterMeaning :=
  decoded (slot v 0 4 13)

/-- 0x85, R89: sprite_base. -/
def meaning85 (v : Byte) : RegisterMeaning :=
  decoded (slot v 0 7 9)

/-- 0x86, R90: UNHANDLED, no fields (decision D9, log 9). -/
def meaning86 (_v : Byte) : RegisterMeaning :=
  RegisterMeaning.empty .unhandled

/-- 0x87, R91: color_index, palette_line. -/
def meaning87 (v : Byte) : RegisterMeaning :=
  decoded (slot v 0 4 0) (slot v 4 2 0)

/-- 0x88, R92: not in the table, so UNRECOGNIZED (decision D8, log 7). -/
def meaning88 (_v : Byte) : RegisterMeaning :=
  meaning8889 Config.class8889

/-- 0x89, R93: not in the table, so UNRECOGNIZED (decision D8, log 7). -/
def meaning89 (_v : Byte) : RegisterMeaning :=
  meaning8889 Config.class8889

/-- 0x8A, R94: hint_lines. -/
def meaning8A (v : Byte) : RegisterMeaning :=
  decoded (slot v 0 8 0)

/-- 0x8B, R95: ext_int_enable, vscroll_mode, hscroll_mode; bit 1 feeds both of the last two (90_conflicts.md C8). -/
def meaning8B (v : Byte) : RegisterMeaning :=
  decoded (flag v 2) (flag v 1) (slot v 0 2 0)

/-- 0x8C, R96: width_320, interlace, shadow_highlight, ext_pixel_bus, hs, vs. -/
def meaning8C (v : Byte) : RegisterMeaning :=
  decoded (flag v 0) (slot v 1 2 0) (flag v 3) (flag v 4) (flag v 5) (flag v 6)

/-- 0x8D, R97: hscroll_base. -/
def meaning8D (v : Byte) : RegisterMeaning :=
  decoded (slot v 0 6 10)

/-- 0x8E, R98: UNHANDLED, no fields (decision D9, log 9). -/
def meaning8E (_v : Byte) : RegisterMeaning :=
  RegisterMeaning.empty .unhandled

/-- 0x8F, R99: auto_increment. -/
def meaning8F (v : Byte) : RegisterMeaning :=
  decoded (slot v 0 8 0)

/-- 0x90, R100: plane_height, plane_width. -/
def meaning90 (v : Byte) : RegisterMeaning :=
  decoded (slot v 4 2 0) (slot v 0 2 0)

/-- 0x91, R101: edge (right or left), position. -/
def meaning91 (v : Byte) : RegisterMeaning :=
  decoded (flag v 7) (slot v 0 4 0)

/-- 0x92, R102: edge (bottom or top), position. -/
def meaning92 (v : Byte) : RegisterMeaning :=
  decoded (flag v 7) (slot v 0 4 0)

/-- 0x93, R103: dma_len_low. -/
def meaning93 (v : Byte) : RegisterMeaning :=
  decoded (slot v 0 8 0)

/-- 0x94, R104: dma_len_high. -/
def meaning94 (v : Byte) : RegisterMeaning :=
  decoded (slot v 0 8 0)

/-- 0x95, R105: dma_src_low (the name by decision D26, log 13). -/
def meaning95 (v : Byte) : RegisterMeaning :=
  decoded (slot v 0 8 0)

/-- 0x96, R106: dma_src_mid (the name by decision D26, log 13). -/
def meaning96 (v : Byte) : RegisterMeaning :=
  decoded (slot v 0 8 0)

/-- 0x97, R107: dma_src_high, dma_type; bit 6 feeds both (90_conflicts.md C8). -/
def meaning97 (v : Byte) : RegisterMeaning :=
  decoded (slot v 0 7 0) (slot v 6 2 0)

/-- Every other index, R108: UNRECOGNIZED, no fields. -/
def meaningUnk (_v : Byte) : RegisterMeaning :=
  RegisterMeaning.empty .unrecognized

/-- REGDEC: the meaning of a RegisterWrite by its whole 8-bit index. `in.mode_320` is received and read by no
meaning (R82, R83; log 14). -/
def regDec (rw : RegisterWrite) (xv _m320 : Bool) : RegisterMeaning :=
  match rw.index with
  | 0x80#8 => meaning80 rw.value
  | 0x81#8 => meaning81 rw.value
  | 0x82#8 => meaning82 rw.value xv
  | 0x83#8 => meaning83 rw.value
  | 0x84#8 => meaning84 rw.value
  | 0x85#8 => meaning85 rw.value
  | 0x86#8 => meaning86 rw.value
  | 0x87#8 => meaning87 rw.value
  | 0x88#8 => meaning88 rw.value
  | 0x89#8 => meaning89 rw.value
  | 0x8A#8 => meaning8A rw.value
  | 0x8B#8 => meaning8B rw.value
  | 0x8C#8 => meaning8C rw.value
  | 0x8D#8 => meaning8D rw.value
  | 0x8E#8 => meaning8E rw.value
  | 0x8F#8 => meaning8F rw.value
  | 0x90#8 => meaning90 rw.value
  | 0x91#8 => meaning91 rw.value
  | 0x92#8 => meaning92 rw.value
  | 0x93#8 => meaning93 rw.value
  | 0x94#8 => meaning94 rw.value
  | 0x95#8 => meaning95 rw.value
  | 0x96#8 => meaning96 rw.value
  | 0x97#8 => meaning97 rw.value
  | _ => meaningUnk rw.value

end Sys2Proof.Machine
end

