-- ==== Sys2Proof/Machine/Pair.lean ====
section
/-!
DEFINITION. The PAIR32 instruction and the DMA-length correlator (spec 42_control_word_classifier.md R122, R123;
43_dma_length_correlator.md R150 to R156).
-/

namespace Sys2Proof.Machine

/-- The length made of the value written to 0x93 and the value written to 0x94 (R152, R153). -/
def transferLength (v93 v94 : Byte) : DmaTransferLength :=
  { length := dmaLength v93 v94, byteCount := dmaByteCount (dmaLength v93 v94) }

/-- CORRELATE: a length when the two indices are 0x93 and 0x94 in either order, none otherwise (R151 to R155). -/
def correlate (rwA rwB : RegisterWrite) : Option DmaTransferLength :=
  if rwA.index == 0x93#8 && rwB.index == 0x94#8 then some (transferLength rwA.value rwB.value)
  else if rwA.index == 0x94#8 && rwB.index == 0x93#8 then some (transferLength rwB.value rwA.value)
  else none

/-- The outputs of a pair: both writes decoded under the same mode inputs, and the correlator beside them, which adds
and does not replace (R73, R75, R122, R154). -/
def pairPorts (rwA rwB : RegisterWrite) (xv m320 : Bool) : ResultPorts :=
  ResultPorts.ofPair rwA (regDec rwA xv m320) rwB (regDec rwB xv m320) (correlate rwA rwB)

/-- PAIR, R122; the low half is taken as a register write whatever its index (R123). -/
def execPair (index0 value0 index1 value1 : Byte) (s : State) : Host.Outcome State Fault Refusal :=
  .next (s.driveResult (pairPorts ⟨index0, value0⟩ ⟨index1, value1⟩ s.inp.extendedVram s.inp.mode320))

end Sys2Proof.Machine
end

