-- ==== Sys2Proof/Machine/RegisterWrite.lean ====
section
/-!
DEFINITION. The RW16 instructions: each drives a SINGLE result, its RegisterWrite and that write's meaning
(spec 40_decode_entry.md R72; 41_register_write_decoder.md R84 to R108).
-/

namespace Sys2Proof.Machine

/-- SINGLE_PATH's outputs for a RegisterWrite and its meaning (R72). -/
def driveSingle (index value : Byte) (rm : RegisterMeaning) (s : State) : Host.Outcome State Fault Refusal :=
  .next (s.driveResult (ResultPorts.ofSingle ⟨index, value⟩ rm))

/-- REG80, R84. -/
def execReg80 (value : Byte) (s : State) : Host.Outcome State Fault Refusal :=
  driveSingle 0x80#8 value (meaning80 value) s

/-- REG81, R85. -/
def execReg81 (value : Byte) (s : State) : Host.Outcome State Fault Refusal :=
  driveSingle 0x81#8 value (meaning81 value) s

/-- REG82, R86. -/
def execReg82 (value : Byte) (s : State) : Host.Outcome State Fault Refusal :=
  driveSingle 0x82#8 value (meaning82 value s.inp.extendedVram) s

/-- REG83, R87. -/
def execReg83 (value : Byte) (s : State) : Host.Outcome State Fault Refusal :=
  driveSingle 0x83#8 value (meaning83 value) s

/-- REG84, R88. -/
def execReg84 (value : Byte) (s : State) : Host.Outcome State Fault Refusal :=
  driveSingle 0x84#8 value (meaning84 value) s

/-- REG85, R89. -/
def execReg85 (value : Byte) (s : State) : Host.Outcome State Fault Refusal :=
  driveSingle 0x85#8 value (meaning85 value) s

/-- REG86, R90. -/
def execReg86 (value : Byte) (s : State) : Host.Outcome State Fault Refusal :=
  driveSingle 0x86#8 value (meaning86 value) s

/-- REG87, R91. -/
def execReg87 (value : Byte) (s : State) : Host.Outcome State Fault Refusal :=
  driveSingle 0x87#8 value (meaning87 value) s

/-- REG88, R92. -/
def execReg88 (value : Byte) (s : State) : Host.Outcome State Fault Refusal :=
  driveSingle 0x88#8 value (meaning88 value) s

/-- REG89, R93. -/
def execReg89 (value : Byte) (s : State) : Host.Outcome State Fault Refusal :=
  driveSingle 0x89#8 value (meaning89 value) s

/-- REG8A, R94. -/
def execReg8A (value : Byte) (s : State) : Host.Outcome State Fault Refusal :=
  driveSingle 0x8A#8 value (meaning8A value) s

/-- REG8B, R95. -/
def execReg8B (value : Byte) (s : State) : Host.Outcome State Fault Refusal :=
  driveSingle 0x8B#8 value (meaning8B value) s

/-- REG8C, R96. -/
def execReg8C (value : Byte) (s : State) : Host.Outcome State Fault Refusal :=
  driveSingle 0x8C#8 value (meaning8C value) s

/-- REG8D, R97. -/
def execReg8D (value : Byte) (s : State) : Host.Outcome State Fault Refusal :=
  driveSingle 0x8D#8 value (meaning8D value) s

/-- REG8E, R98. -/
def execReg8E (value : Byte) (s : State) : Host.Outcome State Fault Refusal :=
  driveSingle 0x8E#8 value (meaning8E value) s

/-- REG8F, R99. -/
def execReg8F (value : Byte) (s : State) : Host.Outcome State Fault Refusal :=
  driveSingle 0x8F#8 value (meaning8F value) s

/-- REG90, R100. -/
def execReg90 (value : Byte) (s : State) : Host.Outcome State Fault Refusal :=
  driveSingle 0x90#8 value (meaning90 value) s

/-- REG91, R101. -/
def execReg91 (value : Byte) (s : State) : Host.Outcome State Fault Refusal :=
  driveSingle 0x91#8 value (meaning91 value) s

/-- REG92, R102. -/
def execReg92 (value : Byte) (s : State) : Host.Outcome State Fault Refusal :=
  driveSingle 0x92#8 value (meaning92 value) s

/-- REG93, R103. -/
def execReg93 (value : Byte) (s : State) : Host.Outcome State Fault Refusal :=
  driveSingle 0x93#8 value (meaning93 value) s

/-- REG94, R104. -/
def execReg94 (value : Byte) (s : State) : Host.Outcome State Fault Refusal :=
  driveSingle 0x94#8 value (meaning94 value) s

/-- REG95, R105. -/
def execReg95 (value : Byte) (s : State) : Host.Outcome State Fault Refusal :=
  driveSingle 0x95#8 value (meaning95 value) s

/-- REG96, R106. -/
def execReg96 (value : Byte) (s : State) : Host.Outcome State Fault Refusal :=
  driveSingle 0x96#8 value (meaning96 value) s

/-- REG97, R107. -/
def execReg97 (value : Byte) (s : State) : Host.Outcome State Fault Refusal :=
  driveSingle 0x97#8 value (meaning97 value) s

/-- REGUNK, R108: the RegisterWrite is still output. -/
def execRegUnk (index value : Byte) (s : State) : Host.Outcome State Fault Refusal :=
  driveSingle index value (meaningUnk value) s

end Sys2Proof.Machine
end

