-- ==== Sys2Proof/Machine/Dispatch.lean ====
section
/-!
DEFINITION. One arm per constructor of Instr, each one direct call of that instruction's meaning.
-/

namespace Sys2Proof.Machine

def exec (i : Instr) (s : State) : Host.Outcome State Fault Refusal :=
  match i with
  | .reg80 value => Sys2Proof.Machine.execReg80 value s
  | .reg81 value => Sys2Proof.Machine.execReg81 value s
  | .reg82 value => Sys2Proof.Machine.execReg82 value s
  | .reg83 value => Sys2Proof.Machine.execReg83 value s
  | .reg84 value => Sys2Proof.Machine.execReg84 value s
  | .reg85 value => Sys2Proof.Machine.execReg85 value s
  | .reg86 value => Sys2Proof.Machine.execReg86 value s
  | .reg87 value => Sys2Proof.Machine.execReg87 value s
  | .reg88 value => Sys2Proof.Machine.execReg88 value s
  | .reg89 value => Sys2Proof.Machine.execReg89 value s
  | .reg8A value => Sys2Proof.Machine.execReg8A value s
  | .reg8B value => Sys2Proof.Machine.execReg8B value s
  | .reg8C value => Sys2Proof.Machine.execReg8C value s
  | .reg8D value => Sys2Proof.Machine.execReg8D value s
  | .reg8E value => Sys2Proof.Machine.execReg8E value s
  | .reg8F value => Sys2Proof.Machine.execReg8F value s
  | .reg90 value => Sys2Proof.Machine.execReg90 value s
  | .reg91 value => Sys2Proof.Machine.execReg91 value s
  | .reg92 value => Sys2Proof.Machine.execReg92 value s
  | .reg93 value => Sys2Proof.Machine.execReg93 value s
  | .reg94 value => Sys2Proof.Machine.execReg94 value s
  | .reg95 value => Sys2Proof.Machine.execReg95 value s
  | .reg96 value => Sys2Proof.Machine.execReg96 value s
  | .reg97 value => Sys2Proof.Machine.execReg97 value s
  | .regUnk index value => Sys2Proof.Machine.execRegUnk index value s
  | .pair index0 value0 index1 value1 => Sys2Proof.Machine.execPair index0 value0 index1 value1 s
  | .madVramRead f => Sys2Proof.Machine.execMadVramRead f s
  | .madVramWrite f => Sys2Proof.Machine.execMadVramWrite f s
  | .madUnk2 f => Sys2Proof.Machine.execMadUnk2 f s
  | .madCramWrite f => Sys2Proof.Machine.execMadCramWrite f s
  | .madVsramRead f => Sys2Proof.Machine.execMadVsramRead f s
  | .madVsramWrite f => Sys2Proof.Machine.execMadVsramWrite f s
  | .madUnk6 f => Sys2Proof.Machine.execMadUnk6 f s
  | .madUnk7 f => Sys2Proof.Machine.execMadUnk7 f s
  | .madCramRead f => Sys2Proof.Machine.execMadCramRead f s
  | .madUnk9 f => Sys2Proof.Machine.execMadUnk9 f s
  | .madUnkA f => Sys2Proof.Machine.execMadUnkA f s
  | .madUnkB f => Sys2Proof.Machine.execMadUnkB f s
  | .madVramByteRead f => Sys2Proof.Machine.execMadVramByteRead f s
  | .madVramByteReadAlt f => Sys2Proof.Machine.execMadVramByteReadAlt f s
  | .madUnkE f => Sys2Proof.Machine.execMadUnkE f s
  | .madUnkF f => Sys2Proof.Machine.execMadUnkF f s
  | .compose low mid high => Sys2Proof.Machine.execCompose low mid high s

end Sys2Proof.Machine
end

