-- ==== Sys2Proof/WellFormed.lean ====
section
/-!
DEFINITION. Which instructions the encodings can express (spec 30_encoding.md R49, R54, R55, R56).
-/

namespace Sys2Proof

/-- The index of a REGUNK word is none of 0x80 to 0x97, which have rows of their own (R54). -/
def isListedIndex (index : Byte) : Bool :=
  decide (0x80 ≤ index.toNat) && decide (index.toNat ≤ 0x97)

/-- The first index of a PAIR32 word carries the tag 0b100 in its top three bits (R49). -/
def hasPairTag (index0 : Byte) : Bool :=
  index0.extractLsb' 5 3 == 0b100#3

/-- A MAD32 word with `CD1 CD0 = 10` has `W[29] = 1`, which is also address bit 13 (R55, R56). -/
def MadFields.hasBit13 (f : MadFields) : Bool :=
  f.aLo.getLsbD 13

/-- What each row of the opcode table asks of its operands. -/
def Instr.wf : Instr → Bool
  | .reg80 _ => true
  | .reg81 _ => true
  | .reg82 _ => true
  | .reg83 _ => true
  | .reg84 _ => true
  | .reg85 _ => true
  | .reg86 _ => true
  | .reg87 _ => true
  | .reg88 _ => true
  | .reg89 _ => true
  | .reg8A _ => true
  | .reg8B _ => true
  | .reg8C _ => true
  | .reg8D _ => true
  | .reg8E _ => true
  | .reg8F _ => true
  | .reg90 _ => true
  | .reg91 _ => true
  | .reg92 _ => true
  | .reg93 _ => true
  | .reg94 _ => true
  | .reg95 _ => true
  | .reg96 _ => true
  | .reg97 _ => true
  | .regUnk index _ => !isListedIndex index
  | .pair index0 _ _ _ => hasPairTag index0
  | .madVramRead _ => true
  | .madVramWrite _ => true
  | .madUnk2 f => f.hasBit13
  | .madCramWrite _ => true
  | .madVsramRead _ => true
  | .madVsramWrite _ => true
  | .madUnk6 f => f.hasBit13
  | .madUnk7 _ => true
  | .madCramRead _ => true
  | .madUnk9 _ => true
  | .madUnkA f => f.hasBit13
  | .madUnkB _ => true
  | .madVramByteRead _ => true
  | .madVramByteReadAlt _ => true
  | .madUnkE f => f.hasBit13
  | .madUnkF _ => true
  | .compose _ _ _ => true

end Sys2Proof
end

