-- ==== Sys2Proof/Decode.lean ====
section
/-!
DEFINITION. The decoder, total on every command word of every width (spec 30_encoding.md R47 to R59: "There is no
illegal encoding"), the encoder written from the same layouts, and the opcode table's rows as data (R55, R63).
Only what is not a command word at all (a width that no row has, a number too large for its port) is rejected, by name.
-/

namespace Sys2Proof

/-- Decode a 16-bit word on its index alone, mask 0xFF00; there is no tag test on this path (R48, R54, R72). -/
def decode16 (h : Half) : Instr :=
  let value := h.extractLsb' 0 8
  match h.extractLsb' 8 8 with
  | 0x80#8 => .reg80 value
  | 0x81#8 => .reg81 value
  | 0x82#8 => .reg82 value
  | 0x83#8 => .reg83 value
  | 0x84#8 => .reg84 value
  | 0x85#8 => .reg85 value
  | 0x86#8 => .reg86 value
  | 0x87#8 => .reg87 value
  | 0x88#8 => .reg88 value
  | 0x89#8 => .reg89 value
  | 0x8A#8 => .reg8A value
  | 0x8B#8 => .reg8B value
  | 0x8C#8 => .reg8C value
  | 0x8D#8 => .reg8D value
  | 0x8E#8 => .reg8E value
  | 0x8F#8 => .reg8F value
  | 0x90#8 => .reg90 value
  | 0x91#8 => .reg91 value
  | 0x92#8 => .reg92 value
  | 0x93#8 => .reg93 value
  | 0x94#8 => .reg94 value
  | 0x95#8 => .reg95 value
  | 0x96#8 => .reg96 value
  | 0x97#8 => .reg97 value
  | index => .regUnk index value

/-- The fields of a MAD32 word. `W[15:8]` and `W[3:2]` are read by no rule (R50, R57; log 21). -/
def madFields (w : Word) : MadFields :=
  { aLo := w.extractLsb' 16 14
    aHi := w.extractLsb' 0 2
    dma := w.getLsbD 7
    copy := w.getLsbD 6 }

/-- Decode a word whose tag is not 0b100 by its type code `CD3 CD2 CD1 CD0` (R50, R55). -/
def decodeMad (w : Word) : Instr :=
  match w.getLsbD 5, w.getLsbD 4, w.getLsbD 31, w.getLsbD 30 with
  | false, false, false, false => .madVramRead (madFields w)
  | false, false, false, true => .madVramWrite (madFields w)
  | false, false, true, false => .madUnk2 (madFields w)
  | false, false, true, true => .madCramWrite (madFields w)
  | false, true, false, false => .madVsramRead (madFields w)
  | false, true, false, true => .madVsramWrite (madFields w)
  | false, true, true, false => .madUnk6 (madFields w)
  | false, true, true, true => .madUnk7 (madFields w)
  | true, false, false, false => .madCramRead (madFields w)
  | true, false, false, true => .madUnk9 (madFields w)
  | true, false, true, false => .madUnkA (madFields w)
  | true, false, true, true => .madUnkB (madFields w)
  | true, true, false, false => .madVramByteRead (madFields w)
  | true, true, false, true => .madVramByteReadAlt (madFields w)
  | true, true, true, false => .madUnkE (madFields w)
  | true, true, true, true => .madUnkF (madFields w)

/-- The tag test of the 32-bit formats: `W[31:29] = 0b100` and nothing else (R47, R121). -/
def isPairWord (w : Word) : Bool :=
  w.extractLsb' 29 3 == 0b100#3

/-- Decode a 32-bit word: the tag first, the type code only where the tag is not 0b100 (R47, R174). -/
def decode32 (w : Word) : Instr :=
  if isPairWord w then
    .pair (w.extractLsb' 24 8) (w.extractLsb' 16 8) (w.extractLsb' 8 8) (w.extractLsb' 0 8)
  else decodeMad w

/-- Every 24-bit operand bundle is a COMPOSE (R51). -/
def decodeAc24 (b : BitVec 24) : Instr :=
  .compose (b.extractLsb' 0 8) (b.extractLsb' 8 8) (b.extractLsb' 16 8)

/-- The decoder: the declared width first, then the format's own fields (R47, R58, R174). -/
def decode : CommandWord → Instr
  | .w16 h => decode16 h
  | .w32 w => decode32 w
  | .ac24 b => decodeAc24 b

/-- Why a pair of numbers (width, bits) is no command word at all. -/
inductive DecodeError where
  /-- No row of the opcode table has this width (R47: a word is 16 or 32 bits, the bundle 24). -/
  | noSuchWidth (nbits : Nat)
  /-- The number does not fit the port it would be presented on (decision D22, log 17). -/
  | tooWide (nbits w : Nat)
  deriving DecidableEq, Repr

/-- The command word that a declared width and a number stand for. On the 16-bit path the bits of `in.word` above
bit 15 are ignored (R74), so any number that fits the 32-bit port is a word. -/
def commandWordOf (nbits w : Nat) : Except DecodeError CommandWord :=
  match nbits with
  | 16 => if w < 2 ^ 32 then .ok (.w16 (BitVec.ofNat 16 w)) else .error (.tooWide 16 w)
  | 24 => if w < 2 ^ 24 then .ok (.ac24 (BitVec.ofNat 24 w)) else .error (.tooWide 24 w)
  | 32 => if w < 2 ^ 32 then .ok (.w32 (BitVec.ofNat 32 w)) else .error (.tooWide 32 w)
  | n => .error (.noSuchWidth n)

/-- The decoder on the bits of one row of spec/opcode_table.json. -/
def decodeTableWord (nbits w : Nat) : Option Instr :=
  match commandWordOf nbits w with
  | .ok c => some (decode c)
  | .error _ => none

/-! ## The encoder -/

/-- `(index << 8) | value` (R48, R61). -/
def rw16Word (index value : Byte) : Half :=
  (index.setWidth 16 <<< 8) ||| value.setWidth 16

/-- `(i0 << 24) | (v0 << 16) | (i1 << 8) | v1` (R49, R61). -/
def pairWord (index0 value0 index1 value1 : Byte) : Word :=
  (index0.setWidth 32 <<< 24) ||| (value0.setWidth 32 <<< 16) ||| (index1.setWidth 32 <<< 8) ||| value1.setWidth 32

/-- One bit of a word. -/
def bitAt (b : Bool) (k : Nat) : Word :=
  (BitVec.ofBool b).setWidth 32 <<< k

/-- `(CD1 << 31) | (CD0 << 30) | (A_lo << 16) | (DMA << 7) | (COPY << 6) | (CD3 << 5) | (CD2 << 4) | A_hi`, the ignored
bits zero (R50, R62; decision D29). R62 gives an UNKNOWN word no canonical encoding: the eight UNK rows follow the same
formula by DESIGN CHOICE (log 21). -/
def madWord (cd3 cd2 cd1 cd0 : Bool) (f : MadFields) : Word :=
  bitAt cd1 31 ||| bitAt cd0 30 ||| (f.aLo.setWidth 32 <<< 16) ||| bitAt f.dma 7 ||| bitAt f.copy 6 ||| bitAt cd3 5 |||
    bitAt cd2 4 ||| f.aHi.setWidth 32

/-- `{high, mid, low}` (R51). -/
def ac24Word (low mid high : Byte) : BitVec 24 :=
  (high.setWidth 24 <<< 16) ||| (mid.setWidth 24 <<< 8) ||| low.setWidth 24

/-- The word of an instruction, canonical where several words decode to it (R48 to R51, R62). -/
def encode : Instr → CommandWord
  | .reg80 value => .w16 (rw16Word 0x80#8 value)
  | .reg81 value => .w16 (rw16Word 0x81#8 value)
  | .reg82 value => .w16 (rw16Word 0x82#8 value)
  | .reg83 value => .w16 (rw16Word 0x83#8 value)
  | .reg84 value => .w16 (rw16Word 0x84#8 value)
  | .reg85 value => .w16 (rw16Word 0x85#8 value)
  | .reg86 value => .w16 (rw16Word 0x86#8 value)
  | .reg87 value => .w16 (rw16Word 0x87#8 value)
  | .reg88 value => .w16 (rw16Word 0x88#8 value)
  | .reg89 value => .w16 (rw16Word 0x89#8 value)
  | .reg8A value => .w16 (rw16Word 0x8A#8 value)
  | .reg8B value => .w16 (rw16Word 0x8B#8 value)
  | .reg8C value => .w16 (rw16Word 0x8C#8 value)
  | .reg8D value => .w16 (rw16Word 0x8D#8 value)
  | .reg8E value => .w16 (rw16Word 0x8E#8 value)
  | .reg8F value => .w16 (rw16Word 0x8F#8 value)
  | .reg90 value => .w16 (rw16Word 0x90#8 value)
  | .reg91 value => .w16 (rw16Word 0x91#8 value)
  | .reg92 value => .w16 (rw16Word 0x92#8 value)
  | .reg93 value => .w16 (rw16Word 0x93#8 value)
  | .reg94 value => .w16 (rw16Word 0x94#8 value)
  | .reg95 value => .w16 (rw16Word 0x95#8 value)
  | .reg96 value => .w16 (rw16Word 0x96#8 value)
  | .reg97 value => .w16 (rw16Word 0x97#8 value)
  | .regUnk index value => .w16 (rw16Word index value)
  | .pair index0 value0 index1 value1 => .w32 (pairWord index0 value0 index1 value1)
  | .madVramRead f => .w32 (madWord false false false false f)
  | .madVramWrite f => .w32 (madWord false false false true f)
  | .madUnk2 f => .w32 (madWord false false true false f)
  | .madCramWrite f => .w32 (madWord false false true true f)
  | .madVsramRead f => .w32 (madWord false true false false f)
  | .madVsramWrite f => .w32 (madWord false true false true f)
  | .madUnk6 f => .w32 (madWord false true true false f)
  | .madUnk7 f => .w32 (madWord false true true true f)
  | .madCramRead f => .w32 (madWord true false false false f)
  | .madUnk9 f => .w32 (madWord true false false true f)
  | .madUnkA f => .w32 (madWord true false true false f)
  | .madUnkB f => .w32 (madWord true false true true f)
  | .madVramByteRead f => .w32 (madWord true true false false f)
  | .madVramByteReadAlt f => .w32 (madWord true true false true f)
  | .madUnkE f => .w32 (madWord true true true false f)
  | .madUnkF f => .w32 (madWord true true true true f)
  | .compose low mid high => .ac24 (ac24Word low mid high)

/-! ## The opcode table as data -/

/-- One row of the opcode table: a word of this width belongs to it when `word & mask = match` (R63). -/
structure OpcodeRow where
  mnemonic : String
  width : Nat
  matchBits : Word
  mask : Word
  deriving DecidableEq, Repr

/-- `word & mask = match`. -/
def OpcodeRow.matches (r : OpcodeRow) (w : Word) : Bool :=
  w &&& r.mask == r.matchBits

/-- The rows of 16 bits with a non-zero mask (R54, R63). -/
def rowsRw16 : List OpcodeRow := [
  ⟨"REG80", 16, 0x8000#32, 0xFF00#32⟩,
  ⟨"REG81", 16, 0x8100#32, 0xFF00#32⟩,
  ⟨"REG82", 16, 0x8200#32, 0xFF00#32⟩,
  ⟨"REG83", 16, 0x8300#32, 0xFF00#32⟩,
  ⟨"REG84", 16, 0x8400#32, 0xFF00#32⟩,
  ⟨"REG85", 16, 0x8500#32, 0xFF00#32⟩,
  ⟨"REG86", 16, 0x8600#32, 0xFF00#32⟩,
  ⟨"REG87", 16, 0x8700#32, 0xFF00#32⟩,
  ⟨"REG88", 16, 0x8800#32, 0xFF00#32⟩,
  ⟨"REG89", 16, 0x8900#32, 0xFF00#32⟩,
  ⟨"REG8A", 16, 0x8A00#32, 0xFF00#32⟩,
  ⟨"REG8B", 16, 0x8B00#32, 0xFF00#32⟩,
  ⟨"REG8C", 16, 0x8C00#32, 0xFF00#32⟩,
  ⟨"REG8D", 16, 0x8D00#32, 0xFF00#32⟩,
  ⟨"REG8E", 16, 0x8E00#32, 0xFF00#32⟩,
  ⟨"REG8F", 16, 0x8F00#32, 0xFF00#32⟩,
  ⟨"REG90", 16, 0x9000#32, 0xFF00#32⟩,
  ⟨"REG91", 16, 0x9100#32, 0xFF00#32⟩,
  ⟨"REG92", 16, 0x9200#32, 0xFF00#32⟩,
  ⟨"REG93", 16, 0x9300#32, 0xFF00#32⟩,
  ⟨"REG94", 16, 0x9400#32, 0xFF00#32⟩,
  ⟨"REG95", 16, 0x9500#32, 0xFF00#32⟩,
  ⟨"REG96", 16, 0x9600#32, 0xFF00#32⟩,
  ⟨"REG97", 16, 0x9700#32, 0xFF00#32⟩]

/-- The default row of 16 bits, taken when no other row matches (R63). -/
def rowRegUnk : OpcodeRow := ⟨"REGUNK", 16, 0#32, 0#32⟩

/-- The rows of 32 bits (R55). -/
def rows32 : List OpcodeRow := [
  ⟨"PAIR", 32, 0x80000000#32, 0xE0000000#32⟩,
  ⟨"MAD.VRAM_READ", 32, 0x00000000#32, 0xC0000030#32⟩,
  ⟨"MAD.VRAM_WRITE", 32, 0x40000000#32, 0xC0000030#32⟩,
  ⟨"MAD.UNK2", 32, 0xA0000000#32, 0xE0000030#32⟩,
  ⟨"MAD.CRAM_WRITE", 32, 0xC0000000#32, 0xC0000030#32⟩,
  ⟨"MAD.VSRAM_READ", 32, 0x00000010#32, 0xC0000030#32⟩,
  ⟨"MAD.VSRAM_WRITE", 32, 0x40000010#32, 0xC0000030#32⟩,
  ⟨"MAD.UNK6", 32, 0xA0000010#32, 0xE0000030#32⟩,
  ⟨"MAD.UNK7", 32, 0xC0000010#32, 0xC0000030#32⟩,
  ⟨"MAD.CRAM_READ", 32, 0x00000020#32, 0xC0000030#32⟩,
  ⟨"MAD.UNK9", 32, 0x40000020#32, 0xC0000030#32⟩,
  ⟨"MAD.UNKA", 32, 0xA0000020#32, 0xE0000030#32⟩,
  ⟨"MAD.UNKB", 32, 0xC0000020#32, 0xC0000030#32⟩,
  ⟨"MAD.VRAM_BYTE_READ", 32, 0x00000030#32, 0xC0000030#32⟩,
  ⟨"MAD.VRAM_BYTE_READ_ALT", 32, 0x40000030#32, 0xC0000030#32⟩,
  ⟨"MAD.UNKE", 32, 0xA0000030#32, 0xE0000030#32⟩,
  ⟨"MAD.UNKF", 32, 0xC0000030#32, 0xC0000030#32⟩]

/-- The row of the composer's bundle (R63). -/
def rowCompose : OpcodeRow := ⟨"COMPOSE", 24, 0#32, 0#32⟩

/-- The mnemonic of the opcode table's row that a constructor stands for. -/
def Instr.mnemonic : Instr → String
  | .reg80 _ => "REG80"
  | .reg81 _ => "REG81"
  | .reg82 _ => "REG82"
  | .reg83 _ => "REG83"
  | .reg84 _ => "REG84"
  | .reg85 _ => "REG85"
  | .reg86 _ => "REG86"
  | .reg87 _ => "REG87"
  | .reg88 _ => "REG88"
  | .reg89 _ => "REG89"
  | .reg8A _ => "REG8A"
  | .reg8B _ => "REG8B"
  | .reg8C _ => "REG8C"
  | .reg8D _ => "REG8D"
  | .reg8E _ => "REG8E"
  | .reg8F _ => "REG8F"
  | .reg90 _ => "REG90"
  | .reg91 _ => "REG91"
  | .reg92 _ => "REG92"
  | .reg93 _ => "REG93"
  | .reg94 _ => "REG94"
  | .reg95 _ => "REG95"
  | .reg96 _ => "REG96"
  | .reg97 _ => "REG97"
  | .regUnk _ _ => "REGUNK"
  | .pair _ _ _ _ => "PAIR"
  | .madVramRead _ => "MAD.VRAM_READ"
  | .madVramWrite _ => "MAD.VRAM_WRITE"
  | .madUnk2 _ => "MAD.UNK2"
  | .madCramWrite _ => "MAD.CRAM_WRITE"
  | .madVsramRead _ => "MAD.VSRAM_READ"
  | .madVsramWrite _ => "MAD.VSRAM_WRITE"
  | .madUnk6 _ => "MAD.UNK6"
  | .madUnk7 _ => "MAD.UNK7"
  | .madCramRead _ => "MAD.CRAM_READ"
  | .madUnk9 _ => "MAD.UNK9"
  | .madUnkA _ => "MAD.UNKA"
  | .madUnkB _ => "MAD.UNKB"
  | .madVramByteRead _ => "MAD.VRAM_BYTE_READ"
  | .madVramByteReadAlt _ => "MAD.VRAM_BYTE_READ_ALT"
  | .madUnkE _ => "MAD.UNKE"
  | .madUnkF _ => "MAD.UNKF"
  | .compose _ _ _ => "COMPOSE"

end Sys2Proof
end

