-- ==== Sys2Proof/Machine/Fetch.lean ====
section
/-!
DEFINITION. How a vector on the input ports becomes the two instructions of one evaluation, the word's and the
composer's (spec 40_decode_entry.md R70, R72, R73, R74, R78), and how the caller makes a vector (R193 to R196).
-/

namespace Sys2Proof.Machine

/-- The command word on the ports: `in.width32` alone says how wide it is, and on the 16-bit path `in.word[31:16]` is
read by no rule (R47, R74; log 11). -/
def Inputs.commandWord (v : Inputs) : CommandWord :=
  if v.width32 then .w32 v.word else .w16 (v.word.extractLsb' 0 16)

/-- The composer's operand bundle on its three ports (R51). -/
def Inputs.composerWord (v : Inputs) : CommandWord :=
  .ac24 (ac24Word v.acLow v.acMid v.acHigh)

/-- The instruction that the word on the ports is. -/
def fetchInstr (v : Inputs) : Instr :=
  decode v.commandWord

/-- The instruction that the composer's ports hold; it runs in every evaluation (R78). -/
def fetchCompose (v : Inputs) : Instr :=
  decode v.composerWord

/-- The vector with a command word of `nbits` bits on the ports that take it, all other ports as they stand. None where
the number is no command word: a width that no row has, or a number too large for its port (DESIGN CHOICE: the spec
leaves such numbers to the caller, R59, R194; decision D22, log 17). -/
def Inputs.withWord (v : Inputs) (nbits w : Nat) : Option Inputs :=
  match nbits with
  | 16 => if w < 2 ^ 32 then some { v with word := BitVec.ofNat 32 w, width32 := false } else none
  | 32 => if w < 2 ^ 32 then some { v with word := BitVec.ofNat 32 w, width32 := true } else none
  | 24 =>
    if w < 2 ^ 24 then
      some { v with
        acLow := (BitVec.ofNat 24 w).extractLsb' 0 8
        acMid := (BitVec.ofNat 24 w).extractLsb' 8 8
        acHigh := (BitVec.ofNat 24 w).extractLsb' 16 8 }
    else none
  | _ => none

/-- The caller presents one more vector before those it already holds: the ports as they stand, with this word. A
number that is no command word it refuses, and presents nothing for it (DESIGN CHOICE, log 17). -/
def State.placeWord (s : State) (nbits w : Nat) : State :=
  match s.inp.withWord nbits w with
  | some v => s.setCaller (v :: s.caller)
  | none => s

/-- A program is the list of vectors the caller presents, one a step (R15, 95_test_vectors.md Part 3; log 6). -/
def State.withProgram (s : State) (vs : List Inputs) : State :=
  s.setCaller vs

end Sys2Proof.Machine
end

