-- ==== Sys2Proof/Machine/Step.lean ====
section
/-!
DEFINITION. One step is one evaluation of the block: the caller's next vector stands on the input ports, and every
output is driven, the decode result by the word's instruction and `out.ac_address` by COMPOSE alongside it
(spec 40_decode_entry.md R70, R76, R78; log 4).
-/

namespace Sys2Proof.Machine

/-- One evaluation. -/
def step (s : State) : Host.Outcome State Fault Refusal :=
  andThen (exec (fetchInstr s.present.inp) s.present) (exec (fetchCompose s.present.inp))

/-- `s` with an instruction placed where `step` takes its next one: at the head of what the caller presents (log 6);
`s` itself where the number is no command word (log 17). -/
def State.withFetchWord (s : State) (nbits w : Nat) : State :=
  s.placeWord nbits w

end Sys2Proof.Machine
end

