-- ==== Sys2Proof/Machine/Evaluate.lean ====
section
/-!
DEFINITION. The block as the spec's pseudocode has it: a function from the input ports to the output ports, on the
bits of the word itself and with no instruction in between (spec 40_decode_entry.md R70, R72, R73;
42_control_word_classifier.md R121, R122, R138; 44_address_composer.md R160). The step is stated to compute it.
-/

namespace Sys2Proof.Machine

/-- CLASSIFY_PAIR: the high half first, the low half second (R122). -/
def classifyPair (w : Word) : RegisterWrite × RegisterWrite :=
  (split (hiHalf w), split (loHalf w))

/-- CLASSIFY_MAD: each field a function of its own bits (R138). -/
def classifyMad (w : Word) : Mad :=
  let code := typeCode (w.getLsbD 5) (w.getLsbD 4) (w.getLsbD 31) (w.getLsbD 30)
  { code := code
    port := portOf code
    address := madAddress (extract w 0 2) (extract w 16 14)
    dmaEnabled := w.getLsbD 7
    vramToVramCopy := w.getLsbD 6 }

/-- SINGLE_PATH (R72). -/
def singlePath (v : Inputs) : ResultPorts :=
  let rw := split (extract v.word 0 16)
  ResultPorts.ofSingle rw (regDec rw v.extendedVram v.mode320)

/-- WORD32_PATH (R73). -/
def word32Path (v : Inputs) : ResultPorts :=
  if extract v.word 29 3 = 0b100#3 then
    pairPorts (classifyPair v.word).1 (classifyPair v.word).2 v.extendedVram v.mode320
  else ResultPorts.ofMad (classifyMad v.word)

/-- DECODE and COMPOSE: all outputs of one evaluation (R70, R78, R79). -/
def evaluate (v : Inputs) : Outputs :=
  { res := if v.width32 then word32Path v else singlePath v
    acAddress := composeAddress v.acLow v.acMid v.acHigh }

end Sys2Proof.Machine
end

