-- ==== Sys2Proof/Machine/Names.lean ====
section
/-!
DEFINITION. The enumeration name tables, constants of the block for whoever renders its numbers (spec 10_state.md R14;
41_register_write_decoder.md R109 to R113). No output depends on them; rendering is the caller's (00_scope.md R5).
Each field has exactly as many bits as its table has entries, so no index is out of range (decision D18).
-/

namespace Sys2Proof.Machine

/-- Names of `hscroll_mode`, index 0x8B (R109). -/
inductive HScrollName where
  | fullScreen
  | invalid
  | rows8Pixel
  | row1Pixel
  deriving DecidableEq, Repr

/-- Names of `interlace`, index 0x8C (R110). -/
inductive InterlaceName where
  | noInterlace
  | interlaceNormal
  | interlaceDouble
  deriving DecidableEq, Repr

/-- Names of `plane_height` and `plane_width`, index 0x90 (R111). -/
inductive PlaneSizeName where
  | px256Cells32
  | px512Cells64
  | invalid
  | px1024Cells128
  deriving DecidableEq, Repr

/-- Names of `dma_type`, index 0x97 (R112). -/
inductive DmaTypeName where
  | m68kToVram
  | vramFill
  | vramToVram
  deriving DecidableEq, Repr

/-- R109. -/
def hscrollName (x : BitVec 2) : HScrollName :=
  match x.getLsbD 1, x.getLsbD 0 with
  | false, false => .fullScreen
  | false, true => .invalid
  | true, false => .rows8Pixel
  | true, true => .row1Pixel

/-- R110: values 0 and 2 have the same name. -/
def interlaceName (x : BitVec 2) : InterlaceName :=
  match x.getLsbD 1, x.getLsbD 0 with
  | false, false => .noInterlace
  | false, true => .interlaceNormal
  | true, false => .noInterlace
  | true, true => .interlaceDouble

/-- R111. -/
def planeSizeName (x : BitVec 2) : PlaneSizeName :=
  match x.getLsbD 1, x.getLsbD 0 with
  | false, false => .px256Cells32
  | false, true => .px512Cells64
  | true, false => .invalid
  | true, true => .px1024Cells128

/-- R112: values 0 and 1 have the same name. -/
def dmaTypeName (x : BitVec 2) : DmaTypeName :=
  match x.getLsbD 1, x.getLsbD 0 with
  | false, false => .m68kToVram
  | false, true => .m68kToVram
  | true, false => .vramFill
  | true, true => .vramToVram

/-- The words of R109. -/
def HScrollName.text : HScrollName → String
  | .fullScreen => "full screen"
  | .invalid => "invalid"
  | .rows8Pixel => "8-pixel rows"
  | .row1Pixel => "1-pixel row"

/-- The words of R110. -/
def InterlaceName.text : InterlaceName → String
  | .noInterlace => "no interlace"
  | .interlaceNormal => "interlace-normal"
  | .interlaceDouble => "interlace-double"

/-- The words of R111. -/
def PlaneSizeName.text : PlaneSizeName → String
  | .px256Cells32 => "256px/32 cells"
  | .px512Cells64 => "512px/64 cells"
  | .invalid => "invalid"
  | .px1024Cells128 => "1024px/128 cells"

/-- The words of R112. -/
def DmaTypeName.text : DmaTypeName → String
  | .m68kToVram => "68K-to-VRAM"
  | .vramFill => "VRAM-fill"
  | .vramToVram => "VRAM-to-VRAM"

/-- The name of a one-bit choice's value is not in the source (R113): whatever `Config` says (log 15). -/
def oneBitText (c : OneBitChoice) (b : BitVec 1) : String :=
  Config.oneBitName c b

end Sys2Proof.Machine
end

