-- ==== Sys2Proof/Machine/RegisterMap.lean ====
section
/-!
DEFINITION. The register-map LUT as data: the declarative table of field descriptors that spec
41_register_write_decoder.md R82 describes and R116 lists, with every field under its name. The per-index rules stand
in RegisterMeaning.lean, and "where it and a rule disagree the rule is right" (R116); that they agree is an obligation.
-/

namespace Sys2Proof.Machine

/-- The six slots of a RegisterMeaning (R23). -/
inductive Slot where
  | f0
  | f1
  | f2
  | f3
  | f4
  | f5
  deriving DecidableEq, Repr

/-- The field names of R116. -/
inductive FieldName where
  | blanking
  | hintEnable
  | freezeOnInt2
  | displayDisable
  | vramSize
  | displayEnable
  | vintEnable
  | dmaEnable
  | palNtsc
  | modeName
  | planeABase
  | windowBase
  | planeBBase
  | spriteBase
  | colorIndex
  | paletteLine
  | hintLines
  | extIntEnable
  | vscrollMode
  | hscrollMode
  | width320
  | interlace
  | shadowHighlight
  | extPixelBus
  | hs
  | vs
  | hscrollBase
  | autoIncrement
  | planeHeight
  | planeWidth
  | edge
  | position
  | dmaLenLow
  | dmaLenHigh
  | dmaSrcLow
  | dmaSrcMid
  | dmaSrcHigh
  | dmaType
  deriving DecidableEq, Repr

/-- One field descriptor `(slot, name, lo, width, shift)`; the width may depend on `in.extended_vram` (R82, R86). -/
structure FieldDesc where
  slot : Slot
  name : FieldName
  lo : Nat
  /-- The width when `in.extended_vram` is 0. -/
  width : Nat
  /-- The width when `in.extended_vram` is 1. -/
  widthXv : Nat
  shift : Nat
  deriving DecidableEq, Repr

/-- A descriptor whose width does not depend on the mode input. -/
def fieldDesc (s : Slot) (name : FieldName) (lo width shift : Nat) : FieldDesc :=
  ⟨s, name, lo, width, width, shift⟩

/-- One entry of the LUT: an index that is not UNRECOGNIZED, its class and its fields (R82). -/
structure LutEntry where
  index : Byte
  cls : RegClass
  fields : List FieldDesc
  deriving DecidableEq, Repr

/-- The 22 entries that are not UNRECOGNIZED; every other index of the 256 has no entry (R82, R7). -/
def registerMap : List LutEntry := [
  ⟨0x80#8, .decoded, [
    fieldDesc .f0 .blanking 5 1 0,
    fieldDesc .f1 .hintEnable 4 1 0,
    fieldDesc .f2 .freezeOnInt2 1 1 0,
    fieldDesc .f3 .displayDisable 0 1 0]⟩,
  ⟨0x81#8, .decoded, [
    fieldDesc .f0 .vramSize 7 1 0,
    fieldDesc .f1 .displayEnable 6 1 0,
    fieldDesc .f2 .vintEnable 5 1 0,
    fieldDesc .f3 .dmaEnable 4 1 0,
    fieldDesc .f4 .palNtsc 3 1 0,
    fieldDesc .f5 .modeName 2 1 0]⟩,
  ⟨0x82#8, .decoded, [⟨.f0, .planeABase, 3, 3, 4, 10⟩]⟩,
  ⟨0x83#8, .decoded, [fieldDesc .f0 .windowBase 0 6 10]⟩,
  ⟨0x84#8, .decoded, [fieldDesc .f0 .planeBBase 0 4 13]⟩,
  ⟨0x85#8, .decoded, [fieldDesc .f0 .spriteBase 0 7 9]⟩,
  ⟨0x86#8, .unhandled, []⟩,
  ⟨0x87#8, .decoded, [
    fieldDesc .f0 .colorIndex 0 4 0,
    fieldDesc .f1 .paletteLine 4 2 0]⟩,
  ⟨0x8A#8, .decoded, [fieldDesc .f0 .hintLines 0 8 0]⟩,
  ⟨0x8B#8, .decoded, [
    fieldDesc .f0 .extIntEnable 2 1 0,
    fieldDesc .f1 .vscrollMode 1 1 0,
    fieldDesc .f2 .hscrollMode 0 2 0]⟩,
  ⟨0x8C#8, .decoded, [
    fieldDesc .f0 .width320 0 1 0,
    fieldDesc .f1 .interlace 1 2 0,
    fieldDesc .f2 .shadowHighlight 3 1 0,
    fieldDesc .f3 .extPixelBus 4 1 0,
    fieldDesc .f4 .hs 5 1 0,
    fieldDesc .f5 .vs 6 1 0]⟩,
  ⟨0x8D#8, .decoded, [fieldDesc .f0 .hscrollBase 0 6 10]⟩,
  ⟨0x8E#8, .unhandled, []⟩,
  ⟨0x8F#8, .decoded, [fieldDesc .f0 .autoIncrement 0 8 0]⟩,
  ⟨0x90#8, .decoded, [
    fieldDesc .f0 .planeHeight 4 2 0,
    fieldDesc .f1 .planeWidth 0 2 0]⟩,
  ⟨0x91#8, .decoded, [
    fieldDesc .f0 .edge 7 1 0,
    fieldDesc .f1 .position 0 4 0]⟩,
  ⟨0x92#8, .decoded, [
    fieldDesc .f0 .edge 7 1 0,
    fieldDesc .f1 .position 0 4 0]⟩,
  ⟨0x93#8, .decoded, [fieldDesc .f0 .dmaLenLow 0 8 0]⟩,
  ⟨0x94#8, .decoded, [fieldDesc .f0 .dmaLenHigh 0 8 0]⟩,
  ⟨0x95#8, .decoded, [fieldDesc .f0 .dmaSrcLow 0 8 0]⟩,
  ⟨0x96#8, .decoded, [fieldDesc .f0 .dmaSrcMid 0 8 0]⟩,
  ⟨0x97#8, .decoded, [
    fieldDesc .f0 .dmaSrcHigh 0 7 0,
    fieldDesc .f1 .dmaType 6 2 0]⟩]

/-- The LUT's entry for an index; none means UNRECOGNIZED (R82). -/
def lutEntry (index : Byte) : Option LutEntry :=
  registerMap.find? (fun e => e.index == index)

/-- The width of a field under a mode input. -/
def FieldDesc.widthAt (d : FieldDesc) (xv : Bool) : Nat :=
  if xv then d.widthXv else d.width

/-- The value of a field: extracted, then shifted (R80, R82). -/
def FieldDesc.value (d : FieldDesc) (xv : Bool) (v : Byte) : BitVec 17 :=
  Sys2Proof.Machine.slot v d.lo (d.widthAt xv) d.shift

/-- Write one slot. -/
def RegisterMeaning.setSlot (m : RegisterMeaning) (s : Slot) (x : BitVec 17) : RegisterMeaning :=
  match s with
  | .f0 => { m with f0 := x }
  | .f1 => { m with f1 := x }
  | .f2 => { m with f2 := x }
  | .f3 => { m with f3 := x }
  | .f4 => { m with f4 := x }
  | .f5 => { m with f5 := x }

/-- REGDEC read off the table: the entry's class, each described slot its field, every other slot 0 (R82). -/
def regDecByTable (rw : RegisterWrite) (xv : Bool) : RegisterMeaning :=
  match lutEntry rw.index with
  | none => RegisterMeaning.empty .unrecognized
  | some e =>
    e.fields.foldl (fun m d => m.setSlot d.slot (d.value xv rw.value)) (RegisterMeaning.empty e.cls)

/-- A named field of a decoded write, where its index has a field of that name. -/
def namedField (rw : RegisterWrite) (xv : Bool) (name : FieldName) : Option (BitVec 17) :=
  match lutEntry rw.index with
  | none => none
  | some e => (e.fields.find? (fun d => d.name == name)).map (fun d => d.value xv rw.value)

end Sys2Proof.Machine
end

