-- ==== Sys2Proof/Safety.lean ====
section
/-!
DEFINITION. What claims are said in: completion, the numbers a meaning holds, the numbers of encoded words and of wire
codes, the invariant of the output ports, and a program's run.
-/

namespace Sys2Proof

/-- The one instruction that is no part of DECODE (R78). -/
def Instr.IsCompose (i : Instr) : Prop :=
  ∃ low mid high, i = .compose low mid high

end Sys2Proof

namespace Sys2Proof.Machine

/-- `i` completes at `s`, in a next state of which `P` holds. -/
abbrev Completes (i : Instr) (s : State) (P : State → Prop) : Prop :=
  ∃ t, exec i s = .next t ∧ P t

/-- `v[lo+w-1 : lo]` as a number: `(v >> lo) mod 2^w` (R9). -/
def bitsOf {n : Nat} (v : BitVec n) (lo w : Nat) : Nat :=
  v.toNat / 2 ^ lo % 2 ^ w

/-- A meaning's class and the numbers in its six slots. -/
def RegisterMeaning.Holds (m : RegisterMeaning) (c : RegClass) (a0 a1 a2 a3 a4 a5 : Nat) : Prop :=
  m.cls = c ∧ m.f0.toNat = a0 ∧ m.f1.toNat = a1 ∧ m.f2.toNat = a2 ∧ m.f3.toNat = a3 ∧ m.f4.toNat = a4 ∧ m.f5.toNat = a5

/-- The outputs show one register write, whose meaning has this class and these numbers. -/
def ShowsSingle (index value : Byte) (c : RegClass) (a0 a1 a2 a3 a4 a5 : Nat) (t : State) : Prop :=
  t.out.res.kind = .single ∧ t.out.res.rw0 = ⟨index, value⟩ ∧ t.out.res.rm0.Holds c a0 a1 a2 a3 a4 a5

/-- The outputs show a descriptor with this code and port, and the word's own address and flags (R135 to R137). -/
def ShowsMad (code : Nat) (port : Port) (f : MadFields) (t : State) : Prop :=
  t.out.res.kind = .memacc ∧ t.out.res.mad.code.toNat = code ∧ t.out.res.mad.port = port ∧
    t.out.res.mad.address.toNat = f.aHi.toNat * 2 ^ 14 + f.aLo.toNat ∧
    t.out.res.mad.dmaEnabled = f.dma ∧ t.out.res.mad.vramToVramCopy = f.copy

/-- A length as one half of a pair would carry it: the value of the write to 0x94, then that of the write to 0x93. -/
def LengthOf (rwA rwB : RegisterWrite) (length : Nat) : Prop :=
  (rwA.index = 0x93#8 ∧ rwB.index = 0x94#8 ∧ length = rwB.value.toNat * 256 + rwA.value.toNat) ∨
  (rwA.index = 0x94#8 ∧ rwB.index = 0x93#8 ∧ length = rwA.value.toNat * 256 + rwB.value.toNat)

/-- The number that the spec's formula for a MAD32 word gives for a type code and the word's other fields, the ignored
bits zero (R50, R62; decision D29, log 21). -/
def madNumber (code : Nat) (f : MadFields) : Nat :=
  code / 2 % 2 * 2 ^ 31 + code % 2 * 2 ^ 30 + f.aLo.toNat * 2 ^ 16 + f.dma.toNat * 128 + f.copy.toNat * 64 +
    code / 8 % 2 * 32 + code / 4 % 2 * 16 + f.aHi.toNat

/-- The class code of a meaning by its index (R82's table; decisions D7, D8, D9, logs 12, 7, 9). -/
def classNumber (index : Byte) : Nat :=
  if index = 0x86#8 ∨ index = 0x8E#8 then 1
  else if index = 0x88#8 ∨ index = 0x89#8 then 0
  else if 0x80 ≤ index.toNat ∧ index.toNat ≤ 0x97 then 2
  else 0

/-- The port codes of the sixteen type codes in order (R125 with R25; decision D13, log 12). -/
def portNumbers : List Nat :=
  [0, 1, 7, 4, 5, 6, 7, 7, 3, 7, 7, 7, 2, 2, 7, 7]

/-- What every evaluation leaves on the output ports, whatever the inputs: outputs a result does not use are zero
(R76), only a pair of writes to 0x93 and 0x94 carries a length and the byte count is twice it (R151 to R155), the port
is the code's (R125), a meaning that is not DECODED has no fields (R82), the composed address is even (R160). -/
structure OutputsInv (o : Outputs) : Prop where
  singleUnused : o.res.kind = .single →
    o.res.rw1 = .zero ∧ o.res.rm1 = .zero ∧ o.res.dmaLenValid = false ∧ o.res.mad = .zero
  pairUnused : o.res.kind = .pair → o.res.mad = .zero
  memaccUnused : o.res.kind = .memacc →
    o.res.rw0 = .zero ∧ o.res.rm0 = .zero ∧ o.res.rw1 = .zero ∧ o.res.rm1 = .zero ∧ o.res.dmaLenValid = false
  noLength : o.res.dmaLenValid = false → o.res.dmaLength = 0 ∧ o.res.dmaByteCount = 0
  aLength : o.res.dmaLenValid = true → o.res.kind = .pair ∧
    LengthOf o.res.rw0 o.res.rw1 o.res.dmaLength.toNat ∧ o.res.dmaByteCount.toNat = 2 * o.res.dmaLength.toNat
  portOfCode : o.res.mad.port = portOf o.res.mad.code
  fields0 : o.res.rm0.cls ≠ .decoded → o.res.rm0 = .empty o.res.rm0.cls
  fields1 : o.res.rm1.cls ≠ .decoded → o.res.rm1 = .empty o.res.rm1.cls
  evenAddress : o.acAddress.getLsbD 0 = false

/-- A run of the host's machine from `s` that is safe for `k` steps: it ends in a state, not in a fault or a refusal. -/
def SafeFor (k : Nat) (s : State) : Prop :=
  ∃ t : State, Host.Core.run Sys2Proof.core k s = .next t

end Sys2Proof.Machine
end

