-- ==== Sys2Proof/Certificates/Slice0/Obligations.lean ====
section
/-!
DEFINITION. The statements for the provers, one `def Obligations.<Name> : Prop` each; OBLIGATIONS.json lists them.
-/

open Sys2Proof Sys2Proof.Machine

/-- For every value v and state s, REG80 answers a next state with kind SINGLE, rw0 = (0x80, v) and a DECODED meaning
whose slots hold v[5], v[4], v[1], v[0], 0, 0. (Formalises R84.) -/
def Obligations.Reg80ShowsFourFlags : Prop :=
  ∀ (v : Byte) (s : State), Completes (.reg80 v) s
    (ShowsSingle 0x80#8 v .decoded (bitsOf v 5 1) (bitsOf v 4 1) (bitsOf v 1 1) (bitsOf v 0 1) 0 0)

/-- For every value v and state s, REG81 answers a next state with kind SINGLE, rw0 = (0x81, v) and a DECODED meaning
whose slots hold v[7], v[6], v[5], v[4], v[3], v[2]. v[1:0] is not read. (Formalises R85.) -/
def Obligations.Reg81ShowsSixFlags : Prop :=
  ∀ (v : Byte) (s : State), Completes (.reg81 v) s
    (ShowsSingle 0x81#8 v .decoded (bitsOf v 7 1) (bitsOf v 6 1) (bitsOf v 5 1) (bitsOf v 4 1) (bitsOf v 3 1) (bitsOf v 2 1))

/-- For every value v and state s, REG82 answers a next state with kind SINGLE, rw0 = (0x82, v) and a DECODED meaning
whose slot f0 holds v[6:3] * 1024 when in.extended_vram is 1 and v[5:3] * 1024 when it is 0, the other slots 0.
(Formalises R86.) -/
def Obligations.Reg82ShowsPlaneABase : Prop :=
  ∀ (v : Byte) (s : State), Completes (.reg82 v) s
    (ShowsSingle 0x82#8 v .decoded (bitsOf v 3 (if s.inp.extendedVram then 4 else 3) * 2 ^ 10) 0 0 0 0 0)

/-- For every value v and state s, REG83 answers a next state with kind SINGLE, rw0 = (0x83, v) and a DECODED meaning
whose slot f0 holds v[5:0] * 2^10 in full, the other slots 0, whatever in.extended_vram is. (Formalises R87.) -/
def Obligations.Reg83ShowsWindowBase : Prop :=
  ∀ (v : Byte) (s : State), Completes (.reg83 v) s
    (ShowsSingle 0x83#8 v .decoded (bitsOf v 0 6 * 2 ^ 10) 0 0 0 0 0)

/-- For every value v and state s, REG84 answers a next state with kind SINGLE, rw0 = (0x84, v) and a DECODED meaning
whose slot f0 holds v[3:0] * 2^13 in full, the other slots 0, whatever in.extended_vram is. (Formalises R88.) -/
def Obligations.Reg84ShowsPlaneBBase : Prop :=
  ∀ (v : Byte) (s : State), Completes (.reg84 v) s
    (ShowsSingle 0x84#8 v .decoded (bitsOf v 0 4 * 2 ^ 13) 0 0 0 0 0)

/-- For every value v and state s, REG85 answers a next state with kind SINGLE, rw0 = (0x85, v) and a DECODED meaning
whose slot f0 holds v[6:0] * 2^9 in full, the other slots 0, whatever in.extended_vram is. (Formalises R89.) -/
def Obligations.Reg85ShowsSpriteBase : Prop :=
  ∀ (v : Byte) (s : State), Completes (.reg85 v) s
    (ShowsSingle 0x85#8 v .decoded (bitsOf v 0 7 * 2 ^ 9) 0 0 0 0 0)

/-- For every value v and state s, REG8D answers a next state with kind SINGLE, rw0 = (0x8D, v) and a DECODED meaning
whose slot f0 holds v[5:0] * 2^10 in full, the other slots 0, whatever in.extended_vram is. (Formalises R97.) -/
def Obligations.Reg8DShowsHScrollBase : Prop :=
  ∀ (v : Byte) (s : State), Completes (.reg8D v) s
    (ShowsSingle 0x8D#8 v .decoded (bitsOf v 0 6 * 2 ^ 10) 0 0 0 0 0)

/-- For every value v and state s, REG86 and REG8E each answer a next state with kind SINGLE, their RegisterWrite on
rw0 and a meaning of class UNHANDLED with all slots 0. The class is the spec's own decision D9 (log 9). (Derived
from 41_register_write_decoder.md section 2 (indices 0x86, 0x8E), 92_eei_decisions.md D9.) -/
def Obligations.Reg86And8EAreUnhandled : Prop :=
  ∀ (v : Byte) (s : State),
    Completes (.reg86 v) s (ShowsSingle 0x86#8 v .unhandled 0 0 0 0 0 0) ∧
    Completes (.reg8E v) s (ShowsSingle 0x8E#8 v .unhandled 0 0 0 0 0 0)

/-- For every value v and state s, REG87 answers a next state with kind SINGLE, rw0 = (0x87, v) and a DECODED meaning
with f0 = v[3:0], f1 = v[5:4], the other slots 0. (Formalises R91.) -/
def Obligations.Reg87ShowsColorAndPalette : Prop :=
  ∀ (v : Byte) (s : State), Completes (.reg87 v) s
    (ShowsSingle 0x87#8 v .decoded (bitsOf v 0 4) (bitsOf v 4 2) 0 0 0 0)

/-- For every value v and state s, REG88 and REG89 each answer a next state with kind SINGLE, their RegisterWrite on
rw0 and a meaning of class UNRECOGNIZED with all slots 0. Under either value of the parameter CLASS_88_89 the slots
are 0. The class is the spec's own decision D8 (log 7). (Derived from 41_register_write_decoder.md section 2
(indices 0x88, 0x89), 92_eei_decisions.md D8, 93_implementation_defined.md U1.) -/
def Obligations.Reg88And89AreUnrecognized : Prop :=
  (∀ (v : Byte) (s : State),
    Completes (.reg88 v) s (ShowsSingle 0x88#8 v .unrecognized 0 0 0 0 0 0) ∧
    Completes (.reg89 v) s (ShowsSingle 0x89#8 v .unrecognized 0 0 0 0 0 0)) ∧
  ∀ c : Class8889, (meaning8889 c).Holds (meaning8889 c).cls 0 0 0 0 0 0

/-- For every value v and state s, REG8A and REG8F each answer a next state with kind SINGLE, their RegisterWrite on
rw0 and a DECODED meaning whose slot f0 is v, the other slots 0. (Formalises R94, R99.) -/
def Obligations.Reg8AAnd8FShowTheirByte : Prop :=
  ∀ (v : Byte) (s : State),
    Completes (.reg8A v) s (ShowsSingle 0x8A#8 v .decoded v.toNat 0 0 0 0 0) ∧
    Completes (.reg8F v) s (ShowsSingle 0x8F#8 v .decoded v.toNat 0 0 0 0 0)

/-- For every value v and state s, REG93 and REG94 each answer a next state with kind SINGLE, their RegisterWrite on
rw0, a DECODED meaning whose slot f0 is v, the other slots 0, and dma_len_valid 0; in a PAIR with the other one, in
either order, the value written to 0x93 is the length's bits [7:0] and the value written to 0x94 its bits [15:8].
That dma_len_valid is 0 after one of them alone is the zero of an output SINGLE does not use, the spec's decision
D12 (log 10). (Derived from 41_register_write_decoder.md section 2 (indices 0x93, 0x94),
43_dma_length_correlator.md (length), 40_decode_entry.md section 3, 92_eei_decisions.md D12.) -/
def Obligations.Reg93And94ShowTheLengthBytes : Prop :=
  (∀ (v : Byte) (s : State),
    Completes (.reg93 v) s (fun t => ShowsSingle 0x93#8 v .decoded v.toNat 0 0 0 0 0 t ∧ t.out.res.dmaLenValid = false) ∧
    Completes (.reg94 v) s (fun t => ShowsSingle 0x94#8 v .decoded v.toNat 0 0 0 0 0 t ∧ t.out.res.dmaLenValid = false)) ∧
  ∀ (v w : Byte) (s : State),
    Completes (.pair 0x93#8 v 0x94#8 w) s (fun t => t.out.res.dmaLenValid = true ∧
      bitsOf t.out.res.dmaLength 0 8 = v.toNat ∧ bitsOf t.out.res.dmaLength 8 8 = w.toNat) ∧
    Completes (.pair 0x94#8 w 0x93#8 v) s (fun t => t.out.res.dmaLenValid = true ∧
      bitsOf t.out.res.dmaLength 0 8 = v.toNat ∧ bitsOf t.out.res.dmaLength 8 8 = w.toNat)

/-- For every value v and state s, REG95 and REG96 each answer a next state with kind SINGLE, their RegisterWrite on
rw0 and a DECODED meaning whose slot f0 is v, the other slots 0. Which of the two bytes is low or middle is only a
name (decision D26, log 13). (Derived from 41_register_write_decoder.md section 2 (indices 0x95, 0x96),
92_eei_decisions.md D26.) -/
def Obligations.Reg95And96ShowTheirByte : Prop :=
  ∀ (v : Byte) (s : State),
    Completes (.reg95 v) s (ShowsSingle 0x95#8 v .decoded v.toNat 0 0 0 0 0) ∧
    Completes (.reg96 v) s (ShowsSingle 0x96#8 v .decoded v.toNat 0 0 0 0 0)

/-- For every value v and state s, REG8B answers a next state with kind SINGLE, rw0 = (0x8B, v) and a DECODED meaning
with f0 = v[2], f1 = v[1], f2 = v[1:0], the other slots 0; and f1 is 1 exactly when f2 is 2 or 3. (Formalises R95.) -/
def Obligations.Reg8BSharesBitOne : Prop :=
  ∀ (v : Byte) (s : State), Completes (.reg8B v) s (fun t =>
    ShowsSingle 0x8B#8 v .decoded (bitsOf v 2 1) (bitsOf v 1 1) (bitsOf v 0 2) 0 0 0 t ∧
    (t.out.res.rm0.f1.toNat = 1 ↔ t.out.res.rm0.f2.toNat = 2 ∨ t.out.res.rm0.f2.toNat = 3))

/-- For every value v and state s, REG8C answers a next state with kind SINGLE, rw0 = (0x8C, v) and a DECODED meaning
with slots v[0], v[2:1], v[3], v[4], v[5], v[6]. (Formalises R96.) -/
def Obligations.Reg8CShowsSixFields : Prop :=
  ∀ (v : Byte) (s : State), Completes (.reg8C v) s
    (ShowsSingle 0x8C#8 v .decoded (bitsOf v 0 1) (bitsOf v 1 2) (bitsOf v 3 1) (bitsOf v 4 1) (bitsOf v 5 1) (bitsOf v 6 1))

/-- For every value v and state s, REG90 answers a next state with kind SINGLE, rw0 = (0x90, v) and a DECODED meaning
with f0 = v[5:4], f1 = v[1:0], the other slots 0, for every value alike. (Formalises R100.) -/
def Obligations.Reg90ShowsPlaneSizes : Prop :=
  ∀ (v : Byte) (s : State), Completes (.reg90 v) s
    (ShowsSingle 0x90#8 v .decoded (bitsOf v 4 2) (bitsOf v 0 2) 0 0 0 0)

/-- For every value v and state s, REG91 and REG92 each answer a next state with kind SINGLE, their RegisterWrite on
rw0 and a DECODED meaning with f0 = v[7], f1 = v[3:0], the other slots 0. (Formalises R101, R102.) -/
def Obligations.Reg91And92ShowEdgeAndPosition : Prop :=
  ∀ (v : Byte) (s : State),
    Completes (.reg91 v) s (ShowsSingle 0x91#8 v .decoded (bitsOf v 7 1) (bitsOf v 0 4) 0 0 0 0) ∧
    Completes (.reg92 v) s (ShowsSingle 0x92#8 v .decoded (bitsOf v 7 1) (bitsOf v 0 4) 0 0 0 0)

/-- For every value v and state s, REG97 answers a next state with kind SINGLE, rw0 = (0x97, v) and a DECODED meaning
with f0 = v[6:0], f1 = v[7:6], the other slots 0. (Formalises R107.) -/
def Obligations.Reg97SharesBitSix : Prop :=
  ∀ (v : Byte) (s : State), Completes (.reg97 v) s
    (ShowsSingle 0x97#8 v .decoded (bitsOf v 0 7) (bitsOf v 6 2) 0 0 0 0)

/-- For every index outside 0x80 to 0x97, value and state, the 16-bit word index*256 + value decodes to REGUNK index
value; and for every index, value and state REGUNK answers a next state with kind SINGLE, rw0 = (index, value) and
a meaning of class UNRECOGNIZED with all slots 0. (Formalises R108.) -/
def Obligations.UnlistedIndexIsUnrecognized : Prop :=
  (∀ (index value : Byte), (index.toNat < 0x80 ∨ 0x97 < index.toNat) →
    decode (.w16 (BitVec.ofNat 16 (index.toNat * 256 + value.toNat))) = .regUnk index value) ∧
  ∀ (index value : Byte) (s : State), Completes (.regUnk index value) s
    (ShowsSingle index value .unrecognized 0 0 0 0 0 0)

/-- For all operands and states, PAIR answers a next state with kind PAIR, rw0 = (index0, value0), rw1 = (index1,
value1), rm0 and rm1 their REGDEC meanings under the state's mode inputs, dma_len_valid telling whether the
correlator answers, and its length and byte count where it does. A 32-bit word W from 0x80000000 to 0x9FFFFFFF
decodes to the PAIR of its four bytes, high half first, whatever the low half holds, and its first index is in 0x80
to 0x9F. (Formalises R122, R123.) -/
def Obligations.PairShowsBothWrites : Prop :=
  (∀ (i0 v0 i1 v1 : Byte) (s : State), Completes (.pair i0 v0 i1 v1) s (fun t =>
    t.out.res.kind = .pair ∧ t.out.res.rw0 = ⟨i0, v0⟩ ∧ t.out.res.rw1 = ⟨i1, v1⟩ ∧
    t.out.res.rm0 = regDec ⟨i0, v0⟩ s.inp.extendedVram s.inp.mode320 ∧
    t.out.res.rm1 = regDec ⟨i1, v1⟩ s.inp.extendedVram s.inp.mode320 ∧
    t.out.res.dmaLenValid = (correlate ⟨i0, v0⟩ ⟨i1, v1⟩).isSome ∧
    ∀ l, correlate ⟨i0, v0⟩ ⟨i1, v1⟩ = some l → t.out.res.dmaLength = l.length ∧ t.out.res.dmaByteCount = l.byteCount)) ∧
  ∀ w : Word, 0x80000000 ≤ w.toNat → w.toNat ≤ 0x9FFFFFFF → ∃ i0 v0 i1 v1, decode (.w32 w) = .pair i0 v0 i1 v1 ∧
    i0.toNat = bitsOf w 24 8 ∧ v0.toNat = bitsOf w 16 8 ∧ i1.toNat = bitsOf w 8 8 ∧ v1.toNat = bitsOf w 0 8 ∧
    0x80 ≤ i0.toNat ∧ i0.toNat ≤ 0x9F

/-- For all operands and states, PAIR answers a next state in which dma_len_valid is 1 if and only if (index0, index1)
is (0x93, 0x94) or (0x94, 0x93); the values play no part. (Formalises R151.) -/
def Obligations.LengthExactlyForIndices93And94 : Prop :=
  ∀ (i0 v0 i1 v1 : Byte) (s : State), Completes (.pair i0 v0 i1 v1) s (fun t =>
    t.out.res.dmaLenValid = true ↔ (i0 = 0x93#8 ∧ i1 = 0x94#8) ∨ (i0 = 0x94#8 ∧ i1 = 0x93#8))

/-- For all values a, b and states, PAIR 0x93 a 0x94 b and PAIR 0x94 b 0x93 a each answer a next state with
dma_len_valid = 1 and dma_length = b*256 + a; and every 16-bit length is reached. (Formalises R152.) -/
def Obligations.LengthIsHighByteThenLowByte : Prop :=
  (∀ (a b : Byte) (s : State),
    Completes (.pair 0x93#8 a 0x94#8 b) s (fun t =>
      t.out.res.dmaLenValid = true ∧ t.out.res.dmaLength.toNat = b.toNat * 256 + a.toNat) ∧
    Completes (.pair 0x94#8 b 0x93#8 a) s (fun t =>
      t.out.res.dmaLenValid = true ∧ t.out.res.dmaLength.toNat = b.toNat * 256 + a.toNat)) ∧
  ∀ (l : BitVec 16) (s : State), ∃ a b : Byte, Completes (.pair 0x93#8 a 0x94#8 b) s (fun t => t.out.res.dmaLength = l)

/-- For all operands and states, PAIR answers a next state with dma_byte_count = 2 * dma_length, exact in 17 bits, and
if the indices are not {0x93, 0x94} both are 0. Exactness of bit 16 is the spec's decision D17 (log 16), the zeros
its decision D24 (log 10). (Derived from 43_dma_length_correlator.md (byte count; no match), 92_eei_decisions.md
D17, D24.) -/
def Obligations.ByteCountTwiceLengthElseZero : Prop :=
  ∀ (i0 v0 i1 v1 : Byte) (s : State), Completes (.pair i0 v0 i1 v1) s (fun t =>
    t.out.res.dmaByteCount.toNat = 2 * t.out.res.dmaLength.toNat ∧
    (¬(i0 = 0x93#8 ∧ i1 = 0x94#8) → ¬(i0 = 0x94#8 ∧ i1 = 0x93#8) →
      t.out.res.dmaLenValid = false ∧ t.out.res.dmaLength = 0 ∧ t.out.res.dmaByteCount = 0))

/-- For all values a, b and states, PAIR 0x93 a 0x94 b answers a next state with kind PAIR, dma_len_valid = 1, rm0
DECODED with f0 = a and rm1 DECODED with f0 = b; PAIR 0x94 b 0x93 a likewise with the two exchanged. (Formalises
R154.) -/
def Obligations.LengthIsAddedToBothMeanings : Prop :=
  ∀ (a b : Byte) (s : State),
    Completes (.pair 0x93#8 a 0x94#8 b) s (fun t => t.out.res.kind = .pair ∧ t.out.res.dmaLenValid = true ∧
      t.out.res.rm0.Holds .decoded a.toNat 0 0 0 0 0 ∧ t.out.res.rm1.Holds .decoded b.toNat 0 0 0 0 0) ∧
    Completes (.pair 0x94#8 b 0x93#8 a) s (fun t => t.out.res.kind = .pair ∧ t.out.res.dmaLenValid = true ∧
      t.out.res.rm0.Holds .decoded b.toNat 0 0 0 0 0 ∧ t.out.res.rm1.Holds .decoded a.toNat 0 0 0 0 0)

/-- If exec of an instruction that is neither PAIR nor COMPOSE answers t, then in t dma_len_valid, dma_length and
dma_byte_count are 0; and a PAIR executed at any two states leaves the same three outputs. The zeros outside a PAIR
are those of unused outputs, the spec's decision D12 (log 10). (Derived from 43_dma_length_correlator.md (when the
correlator runs), 40_decode_entry.md section 3, 92_eei_decisions.md D12.) -/
def Obligations.NoLengthOutsideAPair : Prop :=
  (∀ (i : Instr) (s t : State), exec i s = .next t → ¬i.IsCompose → (∀ i0 v0 i1 v1, i ≠ .pair i0 v0 i1 v1) →
    t.out.res.dmaLenValid = false ∧ t.out.res.dmaLength = 0 ∧ t.out.res.dmaByteCount = 0) ∧
  ∀ (i0 v0 i1 v1 : Byte) (s s' t t' : State), exec (.pair i0 v0 i1 v1) s = .next t →
    exec (.pair i0 v0 i1 v1) s' = .next t' →
    t.out.res.dmaLenValid = t'.out.res.dmaLenValid ∧ t.out.res.dmaLength = t'.out.res.dmaLength ∧
    t.out.res.dmaByteCount = t'.out.res.dmaByteCount

/-- For all fields f and states s, MAD.VRAM_READ, VRAM_WRITE, CRAM_WRITE, VSRAM_READ, VSRAM_WRITE, CRAM_READ,
VRAM_BYTE_READ and VRAM_BYTE_READ_ALT each answer a next state with kind MEMACC, their type code, their port, the
address A_hi*2^14 + A_lo and the two flags as read; and every 32-bit word whose W[31:30] and W[5:4] are those of a
named code completes with that code's port. (Formalises R126, R127, R128, R129, R130, R131, R132, R133.) -/
def Obligations.NamedTypeCodesShowTheirPorts : Prop :=
  (∀ (f : MadFields) (s : State),
    Completes (.madVramRead f) s (ShowsMad 0 .vramRead f) ∧
    Completes (.madVramWrite f) s (ShowsMad 1 .vramWrite f) ∧
    Completes (.madCramWrite f) s (ShowsMad 3 .cramWrite f) ∧
    Completes (.madVsramRead f) s (ShowsMad 4 .vsramRead f) ∧
    Completes (.madVsramWrite f) s (ShowsMad 5 .vsramWrite f) ∧
    Completes (.madCramRead f) s (ShowsMad 8 .cramRead f) ∧
    Completes (.madVramByteRead f) s (ShowsMad 12 .vramByteRead f) ∧
    Completes (.madVramByteReadAlt f) s (ShowsMad 13 .vramByteRead f)) ∧
  ∀ (w : Word) (s : State), Completes (decode (.w32 w)) s (fun t =>
    (bitsOf w 30 2 = 0 → bitsOf w 4 2 = 0 → t.out.res.kind = .memacc ∧ t.out.res.mad.port = .vramRead) ∧
    (bitsOf w 30 2 = 1 → bitsOf w 4 2 = 0 → t.out.res.kind = .memacc ∧ t.out.res.mad.port = .vramWrite) ∧
    (bitsOf w 30 2 = 3 → bitsOf w 4 2 = 0 → t.out.res.kind = .memacc ∧ t.out.res.mad.port = .cramWrite) ∧
    (bitsOf w 30 2 = 0 → bitsOf w 4 2 = 1 → t.out.res.kind = .memacc ∧ t.out.res.mad.port = .vsramRead) ∧
    (bitsOf w 30 2 = 1 → bitsOf w 4 2 = 1 → t.out.res.kind = .memacc ∧ t.out.res.mad.port = .vsramWrite) ∧
    (bitsOf w 30 2 = 0 → bitsOf w 4 2 = 2 → t.out.res.kind = .memacc ∧ t.out.res.mad.port = .cramRead) ∧
    (bitsOf w 30 2 = 0 → bitsOf w 4 2 = 3 → t.out.res.kind = .memacc ∧ t.out.res.mad.port = .vramByteRead) ∧
    (bitsOf w 30 2 = 1 → bitsOf w 4 2 = 3 → t.out.res.kind = .memacc ∧ t.out.res.mad.port = .vramByteRead))

/-- For all fields f and states s, MAD.UNK2, UNK6, UNK7, UNK9, UNKA, UNKB, UNKE and UNKF each answer a next state with
kind MEMACC, their type code, port UNKNOWN, the address A_hi*2^14 + A_lo and the two flags as read; and every
32-bit word that is no PAIR and whose W[31:30] and W[5:4] are those of an unnamed code completes with port UNKNOWN,
and one that decodes to UNK2, UNK6, UNKA or UNKE has W[29] = 1. (Formalises R134.) -/
def Obligations.UnnamedTypeCodesShowUnknown : Prop :=
  (∀ (f : MadFields) (s : State),
    Completes (.madUnk2 f) s (ShowsMad 2 .unknown f) ∧
    Completes (.madUnk6 f) s (ShowsMad 6 .unknown f) ∧
    Completes (.madUnk7 f) s (ShowsMad 7 .unknown f) ∧
    Completes (.madUnk9 f) s (ShowsMad 9 .unknown f) ∧
    Completes (.madUnkA f) s (ShowsMad 10 .unknown f) ∧
    Completes (.madUnkB f) s (ShowsMad 11 .unknown f) ∧
    Completes (.madUnkE f) s (ShowsMad 14 .unknown f) ∧
    Completes (.madUnkF f) s (ShowsMad 15 .unknown f)) ∧
  (∀ (w : Word) (s : State), bitsOf w 29 3 ≠ 4 → Completes (decode (.w32 w)) s (fun t =>
    (bitsOf w 30 2 = 2 → bitsOf w 4 2 = 0 → t.out.res.kind = .memacc ∧ t.out.res.mad.port = .unknown) ∧
    (bitsOf w 30 2 = 2 → bitsOf w 4 2 = 1 → t.out.res.kind = .memacc ∧ t.out.res.mad.port = .unknown) ∧
    (bitsOf w 30 2 = 3 → bitsOf w 4 2 = 1 → t.out.res.kind = .memacc ∧ t.out.res.mad.port = .unknown) ∧
    (bitsOf w 30 2 = 1 → bitsOf w 4 2 = 2 → t.out.res.kind = .memacc ∧ t.out.res.mad.port = .unknown) ∧
    (bitsOf w 30 2 = 2 → bitsOf w 4 2 = 2 → t.out.res.kind = .memacc ∧ t.out.res.mad.port = .unknown) ∧
    (bitsOf w 30 2 = 3 → bitsOf w 4 2 = 2 → t.out.res.kind = .memacc ∧ t.out.res.mad.port = .unknown) ∧
    (bitsOf w 30 2 = 2 → bitsOf w 4 2 = 3 → t.out.res.kind = .memacc ∧ t.out.res.mad.port = .unknown) ∧
    (bitsOf w 30 2 = 3 → bitsOf w 4 2 = 3 → t.out.res.kind = .memacc ∧ t.out.res.mad.port = .unknown))) ∧
  ∀ (w : Word) (f : MadFields), (decode (.w32 w) = .madUnk2 f ∨ decode (.w32 w) = .madUnk6 f ∨
    decode (.w32 w) = .madUnkA f ∨ decode (.w32 w) = .madUnkE f) → bitsOf w 29 1 = 1

/-- For every 32-bit word W with W[31:29] not 0b100 and every state, the instruction W decodes to answers a next state
with kind MEMACC, code = W[5]*8 + W[4]*4 + W[31]*2 + W[30], address = W[1:0]*2^14 + W[29:16], dma_enabled = W[7],
vram_to_vram_copy = W[6]. (Formalises R124, R135, R136, R137.) -/
def Obligations.MadWordFieldsComeFromTheirBits : Prop :=
  ∀ (w : Word) (s : State), bitsOf w 29 3 ≠ 4 → Completes (decode (.w32 w)) s (fun t =>
    t.out.res.kind = .memacc ∧
    t.out.res.mad.code.toNat = bitsOf w 5 1 * 8 + bitsOf w 4 1 * 4 + bitsOf w 31 1 * 2 + bitsOf w 30 1 ∧
    t.out.res.mad.address.toNat = bitsOf w 0 2 * 2 ^ 14 + bitsOf w 16 14 ∧
    (t.out.res.mad.dmaEnabled = true ↔ bitsOf w 7 1 = 1) ∧ (t.out.res.mad.vramToVramCopy = true ↔ bitsOf w 6 1 = 1))

/-- For every type code, address, dma flag and copy flag, where a code with CD1 CD0 = 10 has address bit 13 set, some
32-bit word decodes, at every state, to an instruction that answers a next state with exactly that descriptor and
the code's port. (Derived from 42_control_word_classifier.md section 4 (no cross-checks), 30_encoding.md section 4
(address bit 13).) -/
def Obligations.EveryDescriptorIsReachable : Prop :=
  ∀ (code : BitVec 4) (address : BitVec 16) (dma copy : Bool),
    (bitsOf code 0 2 = 2 → bitsOf address 13 1 = 1) →
    ∃ w : Word, ∀ s : State, Completes (decode (.w32 w)) s (fun t =>
      t.out.res.kind = .memacc ∧ t.out.res.mad = ⟨code, portOf code, address, dma, copy⟩)

/-- For all bytes and states, COMPOSE answers a next state with ac_address = 2 * (high*65536 + mid*256 + low), so bit 0
is 0. For high >= 0x40 bits 23 and 24 are the spec's decision D16 (log 8); below it every reading gives them.
(Derived from 44_address_composer.md (COMPOSE, result width), 92_eei_decisions.md D16.) -/
def Obligations.ComposeShiftsTheAssembledBytes : Prop :=
  ∀ (low mid high : Byte) (s : State), Completes (.compose low mid high) s (fun t =>
    t.out.acAddress.toNat = 2 * (high.toNat * 65536 + mid.toNat * 256 + low.toNat) ∧ bitsOf t.out.acAddress 0 1 = 0)

/-- For all natural numbers low, mid, high, the composer's result on them is 2 * ((high mod 256)*65536 + (mid mod
256)*256 + (low mod 256)). The masking is the spec's rule on input masking; that the result is not truncated where
high mod 256 >= 0x40 is its decision D16 (log 8). (Derived from 44_address_composer.md (input masking, result
width), 92_eei_decisions.md D16.) -/
def Obligations.ComposeMasksWiderNumbers : Prop :=
  ∀ low mid high : Nat, (composeNumbers low mid high).toNat =
    2 * (high % 256 * 65536 + mid % 256 * 256 + low % 256)

/-- For every reading and all bytes with high < 0x40 the composer's result is the formula's; the masked readings are
the formula's result mod 2^23 and the formula on high mod 128; and COMPOSE leaves the formula's result for every
high (the spec's decision D16, log 8). (Derived from 44_address_composer.md (result width),
93_implementation_defined.md U2, 92_eei_decisions.md D16.) -/
def Obligations.ComposeReadingsAgreeBelow40 : Prop :=
  (∀ (r : AcWidthReading) (low mid high : Byte), high.toNat < 0x40 →
    composeUnder r low mid high = composeUnder .formula low mid high) ∧
  (∀ low mid high : Byte,
    (composeUnder .resultMask23 low mid high).toNat = (composeUnder .formula low mid high).toNat % 2 ^ 23 ∧
    (composeUnder .highMask7 low mid high).toNat =
      2 * (high.toNat % 128 * 65536 + mid.toNat * 256 + low.toNat)) ∧
  ∀ (low mid high : Byte) (s : State), Completes (.compose low mid high) s (fun t =>
    t.out.acAddress = composeUnder .formula low mid high)

/-- At any two states COMPOSE with the same bytes leaves the same ac_address; and any other instruction, at two states
with the same mode inputs and whatever else, leaves the same decode outputs. (Formalises R163.) -/
def Obligations.ComposerAndDecoderAreIndependent : Prop :=
  (∀ (low mid high : Byte) (s s' t t' : State), exec (.compose low mid high) s = .next t →
    exec (.compose low mid high) s' = .next t' → t.out.acAddress = t'.out.acAddress) ∧
  ∀ (i : Instr) (s s' t t' : State), ¬i.IsCompose → s.inp.extendedVram = s'.inp.extendedVram →
    s.inp.mode320 = s'.inp.mode320 → exec i s = .next t → exec i s' = .next t' → t.out.res = t'.out.res

/-- For all bytes, exchanging low and mid, mid and high, or low and high leaves the composer's result the same if and
only if the two are equal. (Formalises R165.) -/
def Obligations.ComposeOperandOrderMatters : Prop :=
  ∀ a b c : Byte,
    (composeAddress a b c = composeAddress b a c ↔ a = b) ∧
    (composeAddress a b c = composeAddress a c b ↔ b = c) ∧
    (composeAddress a b c = composeAddress c b a ↔ a = c)

/-- State.reset has all input ports 0 (the model's choice, log 3), no vector to present (log 2), outputs equal to the
evaluation of those inputs, and its outputs meet OutputsInv. The zeros on unused outputs are the spec's decisions
D12 and D24 (log 10); OutputsInv also holds its decisions D17 (log 16) and D9 (log 9), and the evaluation its
decision D16 (log 8), where the composed address is 0 under every reading. (Derived from 10_state.md section 2,
70_reset_and_hazards.md section 1, 40_decode_entry.md section 3, 92_eei_decisions.md D9, D12, D16, D17, D24.) -/
def Obligations.ResetShowsTheEvaluationOfItsInputs : Prop :=
  State.reset.inp = Inputs.zero ∧ State.reset.caller = [] ∧ State.reset.out = evaluate State.reset.inp ∧
    OutputsInv State.reset.out

/-- For every instruction i, well-formed or not, and every state s whose outputs meet OutputsInv, if exec i s answers t
then t's outputs meet it: unused outputs are zero, only a pair of writes to 0x93 and 0x94 carries a length with
twice it as byte count, the port is the code's, a meaning that is not DECODED has no fields, the composed address
is even. The zeros are the spec's decisions D12 and D24 (log 10), the byte count's bit 16 its decision D17 (log
16), the absent fields of UNHANDLED its decision D9 (log 9). (Derived from 40_decode_entry.md section 3,
43_dma_length_correlator.md, 42_control_word_classifier.md section 3, 41_register_write_decoder.md section 1,
92_eei_decisions.md D9, D12, D17, D24.) -/
def Obligations.EveryInstructionKeepsTheOutputInvariant : Prop :=
  ∀ (i : Instr) (s t : State), OutputsInv s.out → exec i s = .next t → OutputsInv t.out

/-- For every state s, reachable or not and whatever stands on its outputs, if step s answers t then t's outputs meet
OutputsInv. The zeros in it are the spec's decisions D12 and D24 (log 10), the exact 17-bit byte count its decision
D17 (log 16), the absent fields of UNHANDLED its decision D9 (log 9). (Derived from 40_decode_entry.md section 3,
20_memory.md section 5, 43_dma_length_correlator.md, 41_register_write_decoder.md section 1, 92_eei_decisions.md
D9, D12, D17, D24.) -/
def Obligations.EveryStepEstablishesTheOutputInvariant : Prop :=
  ∀ s t : State, step s = .next t → OutputsInv t.out

/-- For every state s and every instruction i that the command word on the next vector decodes to, step s is exec of i
at s with that vector on the ports and one vector fewer to present, followed by exec of COMPOSE on that vector's
three bytes. That the two run in this order inside one step is the model's rendering of one evaluation (log 4), the
list of vectors the model's own field (log 2). (Derived from 40_decode_entry.md sections 1 and 3, 10_state.md
section 1.) -/
def Obligations.StepRunsTheFetchedInstructions : Prop :=
  ∀ (s : State) (i : Instr),
    (if s.nextInputs.width32 then decode (.w32 s.nextInputs.word)
      else decode (.w16 (s.nextInputs.word.extractLsb' 0 16))) = i →
    ∃ t u, exec i { inp := s.nextInputs, out := s.out, caller := s.caller.tail } = .next t ∧
      exec (.compose s.nextInputs.acLow s.nextInputs.acMid s.nextInputs.acHigh) t = .next u ∧ step s = .next u

/-- For every state s, step s answers exactly the state with the next vector on the inputs, the pseudocode's outputs
for it (SINGLE_PATH, WORD32_PATH with CLASSIFY_PAIR, CLASSIFY_MAD and CORRELATE, and COMPOSE) on all output ports,
and one vector fewer to present. The list of vectors is the model's own field (log 2); inactive outputs are zero by
the spec's decisions D12 and D24 (log 10), and the pseudocode also holds its decisions D8, D9, D16 and D17 (logs 7,
9, 8, 16). (Derived from 40_decode_entry.md sections 1 to 3, 42_control_word_classifier.md sections 1 to 3,
43_dma_length_correlator.md, 44_address_composer.md, 92_eei_decisions.md D8, D9, D12, D16, D17, D24.) -/
def Obligations.StepComputesTheBlocksFunction : Prop :=
  ∀ s : State, step s = .next { inp := s.nextInputs, out := evaluate s.nextInputs, caller := s.caller.tail }

/-- For every state s, list of vectors vs and position k with vs[k] = v, running the host's machine k+1 steps from s
with program vs answers a next state whose inputs are v, whose outputs are the block's function of v, and whose
remaining program is vs without its first k+1 vectors. The program is the model's own field (log 2, log 6); the
function holds the spec's decisions D8, D9, D12, D16, D17 and D24 (logs 7, 9, 10, 8, 16). (Derived from
20_memory.md section 5, 10_state.md section 1, 95_test_vectors.md Part 3, 92_eei_decisions.md D8, D9, D12, D16,
D17, D24.) -/
def Obligations.ProgramShowsEachVectorsOwnResult : Prop :=
  ∀ (s : State) (vs : List Inputs) (k : Nat) (v : Inputs), vs[k]? = some v →
    Host.Core.run Sys2Proof.core (k + 1) (s.withProgram vs) =
      .next (State.mk v (evaluate v) (vs.drop (k + 1)))

/-- For every instruction, well-formed or not, and every state, exec answers a next state; for every state step does;
and a run of any number of steps ends in a state. (Formalises R77, R170.) -/
def Obligations.EveryEvaluationCompletes : Prop :=
  (∀ (i : Instr) (s : State), Completes i s (fun _ => True)) ∧ (∀ s : State, ∃ t, step s = .next t) ∧
  ∀ (k : Nat) (s : State), SafeFor k s

/-- If two states have the same next vector and both steps answer, the two next states have the same outputs on every
port, whatever stood on the outputs before and whatever else the callers will present. (Formalises R79.) -/
def Obligations.OutputsDependOnTheVectorAlone : Prop :=
  ∀ s s' t t' : State, s.nextInputs = s'.nextInputs → step s = .next t → step s' = .next t' → t.out = t'.out

/-- If exec i s answers t, then t's inputs and list of vectors are s's; if i is COMPOSE every decode output is
unchanged; if i is any other instruction ac_address is unchanged. (The block has no register, flag or memory.)
(Derived from 40_decode_entry.md section 3, 44_address_composer.md, 20_memory.md section 1, 10_state.md section 1.) -/
def Obligations.InstructionsLeaveTheRestUnchanged : Prop :=
  ∀ (i : Instr) (s t : State), exec i s = .next t →
    t.inp = s.inp ∧ t.caller = s.caller ∧ (i.IsCompose → t.out.res = s.out.res) ∧
    (¬i.IsCompose → t.out.acAddress = s.out.acAddress)

/-- For every 32-bit word W and state, the instruction W decodes to answers a next state whose kind is PAIR exactly
when W[31:29] = 0b100, which is exactly when 0x80000000 <= W <= 0x9FFFFFFF, and MEMACC exactly otherwise.
(Formalises R121, R139.) -/
def Obligations.TagAloneChoosesTheBranch : Prop :=
  ∀ (w : Word) (s : State), Completes (decode (.w32 w)) s (fun t =>
    (t.out.res.kind = .pair ↔ bitsOf w 29 3 = 4) ∧ (t.out.res.kind = .memacc ↔ bitsOf w 29 3 ≠ 4) ∧
    (bitsOf w 29 3 = 4 ↔ 0x80000000 ≤ w.toNat ∧ w.toNat ≤ 0x9FFFFFFF))

/-- For every 16-bit word h and state, the instruction h decodes to answers a next state with kind SINGLE, rw0 = (h div
256, h mod 256), rm0 = REGDEC of it under the state's mode inputs, and rw1, rm1, the three length outputs and all
of mad zero. Those zeros are the spec's decision D12 (log 10). (Derived from 40_decode_entry.md sections 2 and 3,
41_register_write_decoder.md section 1, 92_eei_decisions.md D12.) -/
def Obligations.SixteenBitWordsAreRegisterWrites : Prop :=
  ∀ (h : Half) (s : State), Completes (decode (.w16 h)) s (fun t =>
    t.out.res.kind = .single ∧ t.out.res.rw0.index.toNat = h.toNat / 256 ∧ t.out.res.rw0.value.toNat = h.toNat % 256 ∧
    t.out.res.rm0 = regDec t.out.res.rw0 s.inp.extendedVram s.inp.mode320 ∧
    t.out.res.rw1 = ⟨0, 0⟩ ∧ t.out.res.rm1.Holds .unrecognized 0 0 0 0 0 0 ∧ t.out.res.dmaLenValid = false ∧
    t.out.res.dmaLength = 0 ∧ t.out.res.dmaByteCount = 0 ∧ t.out.res.mad = ⟨0, .vramRead, 0, false, false⟩)

/-- If two states' next vectors agree in everything but in.word, and either both are 16-bit with the same low 16 bits,
or both are 32-bit without the tag and agree outside W[15:8] and W[3:2], then the steps' outputs are equal. The
first is the spec's decision D5 (log 11), the second log 21. (Derived from 30_encoding.md section 5,
40_decode_entry.md section 2, 42_control_word_classifier.md section 3, 92_eei_decisions.md D5.) -/
def Obligations.IgnoredBitsChangeNoOutput : Prop :=
  ∀ s s' t t' : State, s.nextInputs = { s'.nextInputs with word := s.nextInputs.word } →
    ((s.nextInputs.width32 = false ∧ bitsOf s.nextInputs.word 0 16 = bitsOf s'.nextInputs.word 0 16) ∨
      (s.nextInputs.width32 = true ∧ bitsOf s.nextInputs.word 29 3 ≠ 4 ∧
        bitsOf s.nextInputs.word 16 16 = bitsOf s'.nextInputs.word 16 16 ∧
        bitsOf s.nextInputs.word 4 4 = bitsOf s'.nextInputs.word 4 4 ∧
        bitsOf s.nextInputs.word 0 2 = bitsOf s'.nextInputs.word 0 2)) →
    step s = .next t → step s' = .next t' → t.out = t'.out

/-- For all register writes and extended_vram, REGDEC gives the same meaning for both values of mode_320; and every
instruction answers next states with the same outputs at two states that differ in in.mode_320 alone. (Formalises
R83.) -/
def Obligations.Mode320HasNoEffect : Prop :=
  (∀ (rw : RegisterWrite) (xv : Bool), regDec rw xv false = regDec rw xv true) ∧
  ∀ (i : Instr) (s : State) (b : Bool), ∃ t t', exec i s = .next t ∧
    exec i (s.putInputs { s.inp with mode320 := b }) = .next t' ∧ t'.out = t.out

/-- REGDEC's meaning of a write to any index but 0x82 is the same for both values of extended_vram; every instruction
that is neither REG82 nor a PAIR with 0x82 among its indices answers next states with the same outputs at two
states that differ in in.extended_vram alone; and for REG82 with value 0x78 the outputs differ. (Derived from
41_register_write_decoder.md section 4, 40_decode_entry.md section 2, 70_reset_and_hazards.md section 3.) -/
def Obligations.ExtendedVramMattersOnlyAtIndex82 : Prop :=
  (∀ (rw : RegisterWrite) (m : Bool), rw.index ≠ 0x82#8 → regDec rw false m = regDec rw true m) ∧
  (∀ (i : Instr) (s : State) (b : Bool), (∀ v, i ≠ .reg82 v) → (∀ v i1 v1, i ≠ .pair 0x82#8 v i1 v1) →
    (∀ i0 v0 v, i ≠ .pair i0 v0 0x82#8 v) → ∃ t t', exec i s = .next t ∧
      exec i (s.putInputs { s.inp with extendedVram := b }) = .next t' ∧ t'.out = t.out) ∧
  ∀ s : State, ∃ t t', exec (.reg82 0x78#8) (s.putInputs { s.inp with extendedVram := false }) = .next t ∧
    exec (.reg82 0x78#8) (s.putInputs { s.inp with extendedVram := true }) = .next t' ∧
    t.out.res.rm0.f0.toNat = 0x1C00 ∧ t'.out.res.rm0.f0.toNat = 0x3C00

/-- For every register write and mode inputs, the class is UNHANDLED for index 0x86 and 0x8E, DECODED for every other
index from 0x80 to 0x97 but 0x88 and 0x89, and UNRECOGNIZED for all the rest; a meaning that is not DECODED has all
slots 0. The class of 0x88 and 0x89 is the spec's decision D8 (log 7), of 0x86 and 0x8E D9 (log 9). (Derived from
41_register_write_decoder.md sections 1 and 4, 92_eei_decisions.md D7, D8, D9.) -/
def Obligations.ClassDependsOnTheIndexAlone : Prop :=
  ∀ (rw : RegisterWrite) (xv m : Bool), (regDec rw xv m).cls =
      (if rw.index = 0x86#8 ∨ rw.index = 0x8E#8 then .unhandled
       else if rw.index = 0x88#8 ∨ rw.index = 0x89#8 then .unrecognized
       else if 0x80 ≤ rw.index.toNat ∧ rw.index.toNat ≤ 0x97 then .decoded else .unrecognized) ∧
    ((regDec rw xv m).cls ≠ .decoded → (regDec rw xv m).Holds (regDec rw xv m).cls 0 0 0 0 0 0)

/-- For every register write and mode inputs, the meaning the per-index rules give is the one the table of 40 field
descriptors gives: the entry's class, each described slot its extracted and shifted field, every other slot 0. Both
follow the spec's decisions D8, by which 0x88 and 0x89 have no entry and are UNRECOGNIZED (log 7), and D9, by which
0x86 and 0x8E are UNHANDLED with no field (log 9). (Derived from 41_register_write_decoder.md section 1 (the LUT),
41_register_write_decoder.md section 4 (summary table), 92_eei_decisions.md D8, D9.) -/
def Obligations.RegisterRulesAgreeWithTheTable : Prop :=
  ∀ (rw : RegisterWrite) (xv m : Bool), regDec rw xv m = regDecByTable rw xv

/-- For every value the base addresses are at most 0x1C00 (or 0x3C00 with extended_vram), 0xFC00, 0x1E000 and 0xFE00,
and each bound is reached at value 0xFF; every address is at most 0xFFFF, byte count at most 0x1FFFE and composed
address at most 0x1FFFFFE, each reached. The byte count's bound rests on the spec's decision D17 (log 16), the
composed address's on D16 (log 8). (Derived from 45_common_semantics.md section 1, 92_eei_decisions.md D16, D17.) -/
def Obligations.NoResultOverflowsItsPort : Prop :=
  (∀ (v : Byte) (xv : Bool),
    (meaning82 v xv).f0.toNat ≤ (if xv then 0x3C00 else 0x1C00) ∧ (meaning83 v).f0.toNat ≤ 0xFC00 ∧
    (meaning84 v).f0.toNat ≤ 0x1E000 ∧ (meaning85 v).f0.toNat ≤ 0xFE00 ∧ (meaning8D v).f0.toNat ≤ 0xFC00) ∧
  (∀ v93 v94 : Byte, (transferLength v93 v94).byteCount.toNat ≤ 0x1FFFE) ∧
  (∀ low mid high : Byte, (composeAddress low mid high).toNat ≤ 0x1FFFFFE) ∧
  (meaning82 0xFF#8 false).f0.toNat = 0x1C00 ∧ (meaning82 0xFF#8 true).f0.toNat = 0x3C00 ∧
  (meaning83 0xFF#8).f0.toNat = 0xFC00 ∧ (meaning84 0xFF#8).f0.toNat = 0x1E000 ∧
  (meaning85 0xFF#8).f0.toNat = 0xFE00 ∧ (meaning8D 0xFF#8).f0.toNat = 0xFC00 ∧
  (madAddress 3#2 0x3FFF#14).toNat = 0xFFFF ∧ (transferLength 0xFF#8 0xFF#8).length.toNat = 0xFFFF ∧
  (transferLength 0xFF#8 0xFF#8).byteCount.toNat = 0x1FFFE ∧
  (composeAddress 0xFF#8 0xFF#8 0xFF#8).toNat = 0x1FFFFFE

/-- The names of hscroll_mode, interlace, plane size and dma_type for the values 0 to 3 are those of the spec's tables;
and for every value v and state, REG8C answers a next state whose slot f1 (interlace) is the number v[2:1], and
REG97 one whose slot f1 (dma_type) is the number v[7:6], so the values that share a name, 0 and 2 of interlace and
0 and 1 of dma_type, come out as different numbers. (Formalises R109, R110, R111, R112.) -/
def Obligations.EnumerationNamesAreTheSpecs : Prop :=
  (hscrollName 0#2).text = "full screen" ∧ (hscrollName 1#2).text = "invalid" ∧
  (hscrollName 2#2).text = "8-pixel rows" ∧ (hscrollName 3#2).text = "1-pixel row" ∧
  (interlaceName 0#2).text = "no interlace" ∧ (interlaceName 1#2).text = "interlace-normal" ∧
  (interlaceName 2#2).text = "no interlace" ∧ (interlaceName 3#2).text = "interlace-double" ∧
  (planeSizeName 0#2).text = "256px/32 cells" ∧ (planeSizeName 1#2).text = "512px/64 cells" ∧
  (planeSizeName 2#2).text = "invalid" ∧ (planeSizeName 3#2).text = "1024px/128 cells" ∧
  (dmaTypeName 0#2).text = "68K-to-VRAM" ∧ (dmaTypeName 1#2).text = "68K-to-VRAM" ∧
  (dmaTypeName 2#2).text = "VRAM-fill" ∧ (dmaTypeName 3#2).text = "VRAM-to-VRAM" ∧
  ∀ (v : Byte) (s : State),
    Completes (.reg8C v) s (fun t => t.out.res.rm0.f1.toNat = bitsOf v 1 2) ∧
    Completes (.reg97 v) s (fun t => t.out.res.rm0.f1.toNat = bitsOf v 6 2)

/-- For every well-formed instruction i of all 43 rows, decode (encode i) = i. (Derived from 30_encoding.md sections 2
and 4.) -/
def Obligations.DecodeOfEncodeIsTheInstruction : Prop :=
  ∀ i : Instr, i.wf = true → decode (encode i) = i

/-- For every command word c, decode c is well-formed, and its own word has the same width. (Derived from
30_encoding.md sections 1, 4 and 6.) -/
def Obligations.EveryDecodedInstructionIsWellFormed : Prop :=
  ∀ c : CommandWord, (decode c).wf = true ∧ (encode (decode c)).width = c.width

/-- For every 16-bit word, 24-bit bundle and 32-bit word with tag 0b100, encode (decode c) = c; for every other 32-bit
word W it is W and 0xFFFF00F3. (Derived from 30_encoding.md sections 2, 5 and 8, 92_eei_decisions.md D29.) -/
def Obligations.EncodeOfDecodeClearsIgnoredBits : Prop :=
  (∀ h : Half, encode (decode (.w16 h)) = .w16 h) ∧ (∀ b : BitVec 24, encode (decode (.ac24 b)) = .ac24 b) ∧
  ∀ w : Word, encode (decode (.w32 w)) = .w32 (if bitsOf w 29 3 = 4 then w else w &&& 0xFFFF00F3#32)

/-- For every 32-bit word the list of rows it matches under word & mask = match is exactly one row, whose mnemonic is
that of the instruction it decodes to; for every 16-bit word the matching rows with a non-zero mask are that one
row, or none when it decodes to REGUNK. (Derived from 30_encoding.md sections 4 and 9.) -/
def Obligations.OpcodeRowsPartitionTheWords : Prop :=
  (∀ w : Word, (rows32.filter (fun r => r.matches w)).map OpcodeRow.mnemonic = [(decode (.w32 w)).mnemonic]) ∧
  ∀ h : Half, (rowsRw16.filter (fun r => r.matches (h.setWidth 32))).map OpcodeRow.mnemonic =
    if (decode (.w16 h)).mnemonic = rowRegUnk.mnemonic then [] else [(decode (.w16 h)).mnemonic]

/-- The word of REG80 to REG97 is the index times 256 plus the value, of REGUNK index*256 + value, of PAIR the four
bytes in order, of each of the sixteen MAD rows the sum of its type code's CD bits, A_lo*2^16, DMA*128, COPY*64 and
A_hi with the ignored bits zero, of COMPOSE {high, mid, low}. For the eight rows MAD.UNK2 to MAD.UNKF the spec
gives no canonical encoding, and that their words follow the same formula is the model's choice (log 21). (Derived
from 30_encoding.md sections 2 and 8, 92_eei_decisions.md D20, D28, D29.) -/
def Obligations.EncodedWordsFollowTheSpecsFormulas : Prop :=
  (∀ v : Byte,
    (encode (.reg80 v)).bits.toNat = 0x80 * 256 + v.toNat ∧
    (encode (.reg81 v)).bits.toNat = 0x81 * 256 + v.toNat ∧
    (encode (.reg82 v)).bits.toNat = 0x82 * 256 + v.toNat ∧
    (encode (.reg83 v)).bits.toNat = 0x83 * 256 + v.toNat ∧
    (encode (.reg84 v)).bits.toNat = 0x84 * 256 + v.toNat ∧
    (encode (.reg85 v)).bits.toNat = 0x85 * 256 + v.toNat ∧
    (encode (.reg86 v)).bits.toNat = 0x86 * 256 + v.toNat ∧
    (encode (.reg87 v)).bits.toNat = 0x87 * 256 + v.toNat ∧
    (encode (.reg88 v)).bits.toNat = 0x88 * 256 + v.toNat ∧
    (encode (.reg89 v)).bits.toNat = 0x89 * 256 + v.toNat ∧
    (encode (.reg8A v)).bits.toNat = 0x8A * 256 + v.toNat ∧
    (encode (.reg8B v)).bits.toNat = 0x8B * 256 + v.toNat ∧
    (encode (.reg8C v)).bits.toNat = 0x8C * 256 + v.toNat ∧
    (encode (.reg8D v)).bits.toNat = 0x8D * 256 + v.toNat ∧
    (encode (.reg8E v)).bits.toNat = 0x8E * 256 + v.toNat ∧
    (encode (.reg8F v)).bits.toNat = 0x8F * 256 + v.toNat ∧
    (encode (.reg90 v)).bits.toNat = 0x90 * 256 + v.toNat ∧
    (encode (.reg91 v)).bits.toNat = 0x91 * 256 + v.toNat ∧
    (encode (.reg92 v)).bits.toNat = 0x92 * 256 + v.toNat ∧
    (encode (.reg93 v)).bits.toNat = 0x93 * 256 + v.toNat ∧
    (encode (.reg94 v)).bits.toNat = 0x94 * 256 + v.toNat ∧
    (encode (.reg95 v)).bits.toNat = 0x95 * 256 + v.toNat ∧
    (encode (.reg96 v)).bits.toNat = 0x96 * 256 + v.toNat ∧
    (encode (.reg97 v)).bits.toNat = 0x97 * 256 + v.toNat) ∧
  (∀ index value : Byte, (encode (.regUnk index value)).bits.toNat = index.toNat * 256 + value.toNat) ∧
  (∀ i0 v0 i1 v1 : Byte, (encode (.pair i0 v0 i1 v1)).bits.toNat =
    i0.toNat * 2 ^ 24 + v0.toNat * 2 ^ 16 + i1.toNat * 256 + v1.toNat) ∧
  (∀ f : MadFields,
    (encode (.madVramRead f)).bits.toNat = madNumber 0 f ∧
    (encode (.madVramWrite f)).bits.toNat = madNumber 1 f ∧
    (encode (.madCramWrite f)).bits.toNat = madNumber 3 f ∧
    (encode (.madVsramRead f)).bits.toNat = madNumber 4 f ∧
    (encode (.madVsramWrite f)).bits.toNat = madNumber 5 f ∧
    (encode (.madCramRead f)).bits.toNat = madNumber 8 f ∧
    (encode (.madVramByteRead f)).bits.toNat = madNumber 12 f ∧
    (encode (.madVramByteReadAlt f)).bits.toNat = madNumber 13 f) ∧
  (∀ f : MadFields,
    (encode (.madUnk2 f)).bits.toNat = madNumber 2 f ∧
    (encode (.madUnk6 f)).bits.toNat = madNumber 6 f ∧
    (encode (.madUnk7 f)).bits.toNat = madNumber 7 f ∧
    (encode (.madUnk9 f)).bits.toNat = madNumber 9 f ∧
    (encode (.madUnkA f)).bits.toNat = madNumber 10 f ∧
    (encode (.madUnkB f)).bits.toNat = madNumber 11 f ∧
    (encode (.madUnkE f)).bits.toNat = madNumber 14 f ∧
    (encode (.madUnkF f)).bits.toNat = madNumber 15 f) ∧
  ∀ low mid high : Byte, (encode (.compose low mid high)).bits.toNat =
    high.toNat * 2 ^ 16 + mid.toNat * 256 + low.toNat

/-- Eight words written bit by bit from the spec's layouts, at least one of each format, decode to their instructions.
(Derived from 30_encoding.md section 2, 95_test_vectors.md Part 2.) -/
def Obligations.SampleWordsDecodeAsWritten : Prop :=
  decode (.w16 0b10001100_10000001#16) = .reg8C 0x81#8 ∧
  decode (.w16 0b10010111_01111111#16) = .reg97 0x7F#8 ∧
  decode (.w16 0b00010010_00110100#16) = .regUnk 0x12#8 0x34#8 ∧
  decode (.w32 0b100_10011_11111111_10010100_00010010#32) = .pair 0x93#8 0xFF#8 0x94#8 0x12#8 ∧
  decode (.w32 0b01_00110000100000_00000000_10_00_00_01#32) = .madVramWrite ⟨0x0C20#14, 1#2, true, false⟩ ∧
  decode (.w32 0b00_11111111111111_00000000_01_11_00_11#32) = .madVramByteRead ⟨0x3FFF#14, 3#2, false, true⟩ ∧
  decode (.w32 0b10_10000000000000_11111111_00_01_11_00#32) = .madUnk6 ⟨0x2000#14, 0#2, false, false⟩ ∧
  decode (.ac24 0b01111111_00010010_00110100#24) = .compose 0x34#8 0x12#8 0x7F#8

/-- For every state, width and number: where decodeTableWord reads it as i, the next vector after withFetchWord has i
as its word's instruction (widths 16 and 32) or as its composer's (width 24), the mode inputs as they stood, the
composer's three bytes as they stood for widths 16 and 32, the word and its width as they stood for width 24, and
the ports themselves, the outputs and the program after it are unchanged; where decodeTableWord reads nothing,
withFetchWord leaves the state as it is. Placing is the model's own way to present a program (log 6), and that a
number that is no command word is refused before it is presented is the model's choice (log 17). (Derived from
40_decode_entry.md section 1, 30_encoding.md section 7, 70_reset_and_hazards.md section 2, 95_test_vectors.md Part
3, 92_eei_decisions.md D22.) -/
def Obligations.PlacedWordIsTheNextInstruction : Prop :=
  ∀ (s : State) (nbits w : Nat),
    (∀ i : Instr, decodeTableWord nbits w = some i →
      (if nbits = 24 then fetchCompose (s.withFetchWord nbits w).nextInputs
        else fetchInstr (s.withFetchWord nbits w).nextInputs) = i ∧
      (s.withFetchWord nbits w).nextInputs.extendedVram = s.inp.extendedVram ∧
      (s.withFetchWord nbits w).nextInputs.mode320 = s.inp.mode320 ∧
      (nbits ≠ 24 → (s.withFetchWord nbits w).nextInputs.acLow = s.inp.acLow ∧
        (s.withFetchWord nbits w).nextInputs.acMid = s.inp.acMid ∧
        (s.withFetchWord nbits w).nextInputs.acHigh = s.inp.acHigh) ∧
      (nbits = 24 → (s.withFetchWord nbits w).nextInputs.word = s.inp.word ∧
        (s.withFetchWord nbits w).nextInputs.width32 = s.inp.width32) ∧
      (s.withFetchWord nbits w).present.caller = s.caller ∧ (s.withFetchWord nbits w).inp = s.inp ∧
      (s.withFetchWord nbits w).out = s.out) ∧
    (decodeTableWord nbits w = none → s.withFetchWord nbits w = s)

/-- The eight ports have the codes 0 to 7 in the order VRAM_READ, VRAM_WRITE, VRAM_BYTE_READ, CRAM_READ, CRAM_WRITE,
VSRAM_READ, VSRAM_WRITE, UNKNOWN; SINGLE, PAIR, MEMACC and UNRECOGNIZED, UNHANDLED, DECODED the codes 0, 1, 2.
Every step from every state answers a next state whose kind's code is 0 for a 16-bit word, 1 for a 32-bit word with
tag 0b100 and 2 for any other, whose port's code is the number that the type code's row of the port table has, and
whose two class codes are the numbers of the class table for the two indices. The codes are the spec's decisions
D6, D7, D13 and D27 (log 12), the classes of 0x88, 0x89, 0x86 and 0x8E D8 and D9 (logs 7, 9), the zeros of unused
outputs D12 (log 10). (Derived from 10_state.md section 4, 40_decode_entry.md sections 1 and 3,
41_register_write_decoder.md section 1, 42_control_word_classifier.md section 3, 92_eei_decisions.md D6, D7, D8,
D9, D12, D13, D27.) -/
def Obligations.StepDrivesTheSpecsWireCodes : Prop :=
  (Port.code .vramRead = 0 ∧ Port.code .vramWrite = 1 ∧ Port.code .vramByteRead = 2 ∧ Port.code .cramRead = 3 ∧
    Port.code .cramWrite = 4 ∧ Port.code .vsramRead = 5 ∧ Port.code .vsramWrite = 6 ∧ Port.code .unknown = 7) ∧
  (Kind.code .single = 0 ∧ Kind.code .pair = 1 ∧ Kind.code .memacc = 2) ∧
  (RegClass.code .unrecognized = 0 ∧ RegClass.code .unhandled = 1 ∧ RegClass.code .decoded = 2) ∧
  ∀ s : State, ∃ t, step s = .next t ∧
    t.out.res.kind.code.toNat =
      (if s.nextInputs.width32 then (if bitsOf s.nextInputs.word 29 3 = 4 then 1 else 2) else 0) ∧
    portNumbers[t.out.res.mad.code.toNat]? = some t.out.res.mad.port.code.toNat ∧
    t.out.res.rm0.cls.code.toNat = classNumber t.out.res.rw0.index ∧
    t.out.res.rm1.cls.code.toNat = classNumber t.out.res.rw1.index
end

