-- ==== Sys2Proof/Laws/Decode.lean ====
section
/-!
SUPPORT. Bits of the encoder's words, and that they meet their rows' masks.
-/

namespace Sys2Proof.Laws

theorem getLsbD_bitAt (b : Bool) (k i : Nat) : (bitAt b k).getLsbD i = (decide (i < 32) && decide (i = k) && b) := by
  simp only [bitAt, BitVec.getLsbD_shiftLeft, BitVec.getLsbD_setWidth]
  rcases Nat.lt_trichotomy i k with h | h | h
  · simp [h, show i ≠ k by omega]
  · subst h
    by_cases hi : i < 32 <;> simp [hi]
  · have : i - k ≠ 0 := by omega
    cases b <;> simp [show i ≠ k by omega, this]

theorem matches_of_mask_zero (mn : String) (wd : Nat) (w : Word) :
    OpcodeRow.matches ⟨mn, wd, 0#32, 0#32⟩ w = true := by
  simp [OpcodeRow.matches]

theorem rw16_matches {mn : String} {wd : Nat} (index value : Byte) :
    OpcodeRow.matches ⟨mn, wd, index.setWidth 32 <<< 8, 0xFF00#32⟩ ((rw16Word index value).setWidth 32) = true := by
  simp only [OpcodeRow.matches, beq_iff_eq]
  apply BitVec.eq_of_getLsbD_eq
  intro i hi
  simp only [rw16Word, BitVec.getLsbD_and, BitVec.getLsbD_setWidth, BitVec.getLsbD_or, BitVec.getLsbD_shiftLeft]
  interval_cases i <;> simp

theorem pair_matches {mn : String} {wd : Nat} (i0 v0 i1 v1 : Byte) (h : hasPairTag i0 = true) :
    OpcodeRow.matches ⟨mn, wd, 0x80000000#32, 0xE0000000#32⟩ (pairWord i0 v0 i1 v1) = true := by
  have h' : i0.extractLsb' 5 3 = 0b100#3 := by simpa [hasPairTag] using h
  have b (k : Nat) : (i0.extractLsb' 5 3).getLsbD k = (0b100#3).getLsbD k := by rw [h']
  have b0 := b 0
  have b1 := b 1
  have b2 := b 2
  simp at b0 b1 b2
  simp only [OpcodeRow.matches, beq_iff_eq]
  apply BitVec.eq_of_getLsbD_eq
  intro i hi
  simp only [pairWord, BitVec.getLsbD_and, BitVec.getLsbD_setWidth, BitVec.getLsbD_or, BitVec.getLsbD_shiftLeft]
  interval_cases i <;> simp [b0, b1, b2]

theorem mad_matches {mn : String} {wd : Nat} (cd3 cd2 cd1 cd0 : Bool) (f : MadFields) :
    OpcodeRow.matches ⟨mn, wd, bitAt cd1 31 ||| bitAt cd0 30 ||| bitAt cd3 5 ||| bitAt cd2 4, 0xC0000030#32⟩
      (madWord cd3 cd2 cd1 cd0 f) = true := by
  simp only [OpcodeRow.matches, beq_iff_eq]
  apply BitVec.eq_of_getLsbD_eq
  intro i hi
  simp only [madWord, BitVec.getLsbD_and, BitVec.getLsbD_setWidth, BitVec.getLsbD_or, BitVec.getLsbD_shiftLeft,
    getLsbD_bitAt]
  interval_cases i <;> simp

theorem mad_matches_bit13 {mn : String} {wd : Nat} (cd3 cd2 : Bool) (f : MadFields) (h : f.hasBit13 = true) :
    OpcodeRow.matches ⟨mn, wd, 0xA0000000#32 ||| bitAt cd3 5 ||| bitAt cd2 4, 0xE0000030#32⟩
      (madWord cd3 cd2 true false f) = true := by
  have h' : f.aLo[13] = true := by simpa [MadFields.hasBit13] using h
  simp only [OpcodeRow.matches, beq_iff_eq]
  apply BitVec.eq_of_getLsbD_eq
  intro i hi
  simp only [madWord, BitVec.getLsbD_and, BitVec.getLsbD_setWidth, BitVec.getLsbD_or, BitVec.getLsbD_shiftLeft,
    getLsbD_bitAt]
  interval_cases i <;> simp [h']

end Sys2Proof.Laws
end

