-- ==== Sys2Proof/Laws/State.lean ====
section
/-!
SUPPORT. One lemma per field per update of State, true by rfl.
-/

namespace Sys2Proof.Machine

variable (s : State) (r : ResultPorts) (a : BitVec 25) (v : Inputs) (vs : List Inputs)

@[simp] theorem State.driveResult_inp : (s.driveResult r).inp = s.inp := rfl
@[simp] theorem State.driveResult_res : (s.driveResult r).out.res = r := rfl
@[simp] theorem State.driveResult_acAddress : (s.driveResult r).out.acAddress = s.out.acAddress := rfl
@[simp] theorem State.driveResult_caller : (s.driveResult r).caller = s.caller := rfl

@[simp] theorem State.driveAc_inp : (s.driveAc a).inp = s.inp := rfl
@[simp] theorem State.driveAc_res : (s.driveAc a).out.res = s.out.res := rfl
@[simp] theorem State.driveAc_acAddress : (s.driveAc a).out.acAddress = a := rfl
@[simp] theorem State.driveAc_caller : (s.driveAc a).caller = s.caller := rfl

@[simp] theorem State.putInputs_inp : (s.putInputs v).inp = v := rfl
@[simp] theorem State.putInputs_out : (s.putInputs v).out = s.out := rfl
@[simp] theorem State.putInputs_caller : (s.putInputs v).caller = s.caller := rfl

@[simp] theorem State.setCaller_inp : (s.setCaller vs).inp = s.inp := rfl
@[simp] theorem State.setCaller_out : (s.setCaller vs).out = s.out := rfl
@[simp] theorem State.setCaller_caller : (s.setCaller vs).caller = vs := rfl

@[simp] theorem State.present_inp : s.present.inp = s.nextInputs := rfl
@[simp] theorem State.present_out : s.present.out = s.out := rfl
@[simp] theorem State.present_caller : s.present.caller = s.caller.tail := rfl

/-- With nothing to present, the ports keep their values. -/
theorem State.nextInputs_of_nil (h : s.caller = []) : s.nextInputs = s.inp := by
  simp [State.nextInputs, h]

/-- The caller's next vector is the one evaluated. -/
theorem State.nextInputs_of_cons (h : s.caller = v :: vs) : s.nextInputs = v := by
  simp [State.nextInputs, h]

end Sys2Proof.Machine
end

