-- ==== Sys2Proof/Laws/Ops.lean ====
section
/-!
SUPPORT. What each shared operation can do, said once: it answers exactly this next state.
-/

namespace Sys2Proof.Machine

section Ports

variable (rwA rwB : RegisterWrite) (rmA rmB : RegisterMeaning) (len : Option DmaTransferLength) (m : Mad)

@[simp] theorem ResultPorts.ofSingle_kind : (ResultPorts.ofSingle rwA rmA).kind = .single := rfl
@[simp] theorem ResultPorts.ofSingle_rw0 : (ResultPorts.ofSingle rwA rmA).rw0 = rwA := rfl
@[simp] theorem ResultPorts.ofSingle_rm0 : (ResultPorts.ofSingle rwA rmA).rm0 = rmA := rfl
@[simp] theorem ResultPorts.ofSingle_rw1 : (ResultPorts.ofSingle rwA rmA).rw1 = .zero := rfl
@[simp] theorem ResultPorts.ofSingle_rm1 : (ResultPorts.ofSingle rwA rmA).rm1 = .zero := rfl
@[simp] theorem ResultPorts.ofSingle_dmaLenValid : (ResultPorts.ofSingle rwA rmA).dmaLenValid = false := rfl
@[simp] theorem ResultPorts.ofSingle_dmaLength : (ResultPorts.ofSingle rwA rmA).dmaLength = 0 := rfl
@[simp] theorem ResultPorts.ofSingle_dmaByteCount : (ResultPorts.ofSingle rwA rmA).dmaByteCount = 0 := rfl
@[simp] theorem ResultPorts.ofSingle_mad : (ResultPorts.ofSingle rwA rmA).mad = .zero := rfl

@[simp] theorem ResultPorts.ofPair_kind : (ResultPorts.ofPair rwA rmA rwB rmB len).kind = .pair := rfl
@[simp] theorem ResultPorts.ofPair_rw0 : (ResultPorts.ofPair rwA rmA rwB rmB len).rw0 = rwA := rfl
@[simp] theorem ResultPorts.ofPair_rm0 : (ResultPorts.ofPair rwA rmA rwB rmB len).rm0 = rmA := rfl
@[simp] theorem ResultPorts.ofPair_rw1 : (ResultPorts.ofPair rwA rmA rwB rmB len).rw1 = rwB := rfl
@[simp] theorem ResultPorts.ofPair_rm1 : (ResultPorts.ofPair rwA rmA rwB rmB len).rm1 = rmB := rfl
@[simp] theorem ResultPorts.ofPair_dmaLenValid : (ResultPorts.ofPair rwA rmA rwB rmB len).dmaLenValid = len.isSome := rfl
@[simp] theorem ResultPorts.ofPair_dmaLength : (ResultPorts.ofPair rwA rmA rwB rmB len).dmaLength = (len.map DmaTransferLength.length).getD 0 := rfl
@[simp] theorem ResultPorts.ofPair_dmaByteCount : (ResultPorts.ofPair rwA rmA rwB rmB len).dmaByteCount = (len.map DmaTransferLength.byteCount).getD 0 := rfl
@[simp] theorem ResultPorts.ofPair_mad : (ResultPorts.ofPair rwA rmA rwB rmB len).mad = .zero := rfl

@[simp] theorem ResultPorts.ofMad_kind : (ResultPorts.ofMad m).kind = .memacc := rfl
@[simp] theorem ResultPorts.ofMad_rw0 : (ResultPorts.ofMad m).rw0 = .zero := rfl
@[simp] theorem ResultPorts.ofMad_rm0 : (ResultPorts.ofMad m).rm0 = .zero := rfl
@[simp] theorem ResultPorts.ofMad_rw1 : (ResultPorts.ofMad m).rw1 = .zero := rfl
@[simp] theorem ResultPorts.ofMad_rm1 : (ResultPorts.ofMad m).rm1 = .zero := rfl
@[simp] theorem ResultPorts.ofMad_dmaLenValid : (ResultPorts.ofMad m).dmaLenValid = false := rfl
@[simp] theorem ResultPorts.ofMad_dmaLength : (ResultPorts.ofMad m).dmaLength = 0 := rfl
@[simp] theorem ResultPorts.ofMad_dmaByteCount : (ResultPorts.ofMad m).dmaByteCount = 0 := rfl
@[simp] theorem ResultPorts.ofMad_mad : (ResultPorts.ofMad m).mad = m := rfl

end Ports

@[simp] theorem andThen_next (s : State) (k : State → Host.Outcome State Fault Refusal) :
    andThen (.next s) k = k s := rfl

/-- If `andThen` answers a next state, both parts did. -/
theorem andThen_eq_next {o : Host.Outcome State Fault Refusal} {k : State → Host.Outcome State Fault Refusal}
    {t : State} (h : andThen o k = .next t) : ∃ u, o = .next u ∧ k u = .next t := by
  cases o with
  | next u => exact ⟨u, rfl, h⟩
  | fault r => cases r
  | refused r => cases h

theorem driveSingle_eq_next {index value : Byte} {rm : RegisterMeaning} {s t : State}
    (h : driveSingle index value rm s = .next t) :
    t = s.driveResult (ResultPorts.ofSingle ⟨index, value⟩ rm) := by
  simpa [driveSingle] using h.symm

theorem driveMad_eq_next {code : BitVec 4} {port : Port} {f : MadFields} {s t : State}
    (h : driveMad code port f s = .next t) :
    t = s.driveResult (ResultPorts.ofMad ⟨code, port, madAddress f.aHi f.aLo, f.dma, f.copy⟩) := by
  simpa [driveMad] using h.symm

theorem execPair_eq_next {i0 v0 i1 v1 : Byte} {s t : State} (h : execPair i0 v0 i1 v1 s = .next t) :
    t = s.driveResult (pairPorts ⟨i0, v0⟩ ⟨i1, v1⟩ s.inp.extendedVram s.inp.mode320) := by
  simpa [execPair] using h.symm

theorem execCompose_eq_next {low mid high : Byte} {s t : State} (h : execCompose low mid high s = .next t) :
    t = s.driveAc (composeAddress low mid high) := by
  simpa [execCompose] using h.symm

/-- The correlator either finds the two length registers, in one of two orders, or nothing. -/
theorem correlate_cases (rwA rwB : RegisterWrite) :
    (rwA.index = 0x93#8 ∧ rwB.index = 0x94#8 ∧ correlate rwA rwB = some (transferLength rwA.value rwB.value)) ∨
    (rwA.index = 0x94#8 ∧ rwB.index = 0x93#8 ∧ correlate rwA rwB = some (transferLength rwB.value rwA.value)) ∨
    (¬(rwA.index = 0x93#8 ∧ rwB.index = 0x94#8) ∧ ¬(rwA.index = 0x94#8 ∧ rwB.index = 0x93#8) ∧
      correlate rwA rwB = none) := by
  by_cases h1 : rwA.index = 0x93#8 ∧ rwB.index = 0x94#8
  · exact .inl ⟨h1.1, h1.2, by simp [correlate, h1.1, h1.2]⟩
  · by_cases h2 : rwA.index = 0x94#8 ∧ rwB.index = 0x93#8
    · exact .inr (.inl ⟨h2.1, h2.2, by simp [correlate, h2.1, h2.2]⟩)
    · exact .inr (.inr ⟨h1, h2, by simp [correlate, h1, h2]⟩)

end Sys2Proof.Machine
end

