-- ==== Sys2Proof/Laws/Exec.lean ====
section
/-!
SUPPORT. `exec` of each constructor as the shared operation it is, by rfl, so that a proof rewrites with one of these
and never unfolds the dispatch.
-/

namespace Sys2Proof.Machine

variable (s : State) (v : Byte) (f : MadFields)

theorem exec_reg80 : exec (.reg80 v) s = driveSingle 0x80#8 v (meaning80 v) s := rfl
theorem exec_reg81 : exec (.reg81 v) s = driveSingle 0x81#8 v (meaning81 v) s := rfl
theorem exec_reg82 : exec (.reg82 v) s = driveSingle 0x82#8 v (meaning82 v s.inp.extendedVram) s := rfl
theorem exec_reg83 : exec (.reg83 v) s = driveSingle 0x83#8 v (meaning83 v) s := rfl
theorem exec_reg84 : exec (.reg84 v) s = driveSingle 0x84#8 v (meaning84 v) s := rfl
theorem exec_reg85 : exec (.reg85 v) s = driveSingle 0x85#8 v (meaning85 v) s := rfl
theorem exec_reg86 : exec (.reg86 v) s = driveSingle 0x86#8 v (meaning86 v) s := rfl
theorem exec_reg87 : exec (.reg87 v) s = driveSingle 0x87#8 v (meaning87 v) s := rfl
theorem exec_reg88 : exec (.reg88 v) s = driveSingle 0x88#8 v (meaning88 v) s := rfl
theorem exec_reg89 : exec (.reg89 v) s = driveSingle 0x89#8 v (meaning89 v) s := rfl
theorem exec_reg8A : exec (.reg8A v) s = driveSingle 0x8A#8 v (meaning8A v) s := rfl
theorem exec_reg8B : exec (.reg8B v) s = driveSingle 0x8B#8 v (meaning8B v) s := rfl
theorem exec_reg8C : exec (.reg8C v) s = driveSingle 0x8C#8 v (meaning8C v) s := rfl
theorem exec_reg8D : exec (.reg8D v) s = driveSingle 0x8D#8 v (meaning8D v) s := rfl
theorem exec_reg8E : exec (.reg8E v) s = driveSingle 0x8E#8 v (meaning8E v) s := rfl
theorem exec_reg8F : exec (.reg8F v) s = driveSingle 0x8F#8 v (meaning8F v) s := rfl
theorem exec_reg90 : exec (.reg90 v) s = driveSingle 0x90#8 v (meaning90 v) s := rfl
theorem exec_reg91 : exec (.reg91 v) s = driveSingle 0x91#8 v (meaning91 v) s := rfl
theorem exec_reg92 : exec (.reg92 v) s = driveSingle 0x92#8 v (meaning92 v) s := rfl
theorem exec_reg93 : exec (.reg93 v) s = driveSingle 0x93#8 v (meaning93 v) s := rfl
theorem exec_reg94 : exec (.reg94 v) s = driveSingle 0x94#8 v (meaning94 v) s := rfl
theorem exec_reg95 : exec (.reg95 v) s = driveSingle 0x95#8 v (meaning95 v) s := rfl
theorem exec_reg96 : exec (.reg96 v) s = driveSingle 0x96#8 v (meaning96 v) s := rfl
theorem exec_reg97 : exec (.reg97 v) s = driveSingle 0x97#8 v (meaning97 v) s := rfl
theorem exec_regUnk (index : Byte) : exec (.regUnk index v) s = driveSingle index v (meaningUnk v) s := rfl

theorem exec_pair (i0 v0 i1 v1 : Byte) : exec (.pair i0 v0 i1 v1) s =
    .next (s.driveResult (pairPorts ⟨i0, v0⟩ ⟨i1, v1⟩ s.inp.extendedVram s.inp.mode320)) := rfl

theorem exec_madVramRead : exec (.madVramRead f) s = driveMad 0b0000#4 .vramRead f s := rfl
theorem exec_madVramWrite : exec (.madVramWrite f) s = driveMad 0b0001#4 .vramWrite f s := rfl
theorem exec_madUnk2 : exec (.madUnk2 f) s = driveMad 0b0010#4 .unknown f s := rfl
theorem exec_madCramWrite : exec (.madCramWrite f) s = driveMad 0b0011#4 .cramWrite f s := rfl
theorem exec_madVsramRead : exec (.madVsramRead f) s = driveMad 0b0100#4 .vsramRead f s := rfl
theorem exec_madVsramWrite : exec (.madVsramWrite f) s = driveMad 0b0101#4 .vsramWrite f s := rfl
theorem exec_madUnk6 : exec (.madUnk6 f) s = driveMad 0b0110#4 .unknown f s := rfl
theorem exec_madUnk7 : exec (.madUnk7 f) s = driveMad 0b0111#4 .unknown f s := rfl
theorem exec_madCramRead : exec (.madCramRead f) s = driveMad 0b1000#4 .cramRead f s := rfl
theorem exec_madUnk9 : exec (.madUnk9 f) s = driveMad 0b1001#4 .unknown f s := rfl
theorem exec_madUnkA : exec (.madUnkA f) s = driveMad 0b1010#4 .unknown f s := rfl
theorem exec_madUnkB : exec (.madUnkB f) s = driveMad 0b1011#4 .unknown f s := rfl
theorem exec_madVramByteRead : exec (.madVramByteRead f) s = driveMad 0b1100#4 .vramByteRead f s := rfl
theorem exec_madVramByteReadAlt : exec (.madVramByteReadAlt f) s = driveMad 0b1101#4 .vramByteRead f s := rfl
theorem exec_madUnkE : exec (.madUnkE f) s = driveMad 0b1110#4 .unknown f s := rfl
theorem exec_madUnkF : exec (.madUnkF f) s = driveMad 0b1111#4 .unknown f s := rfl

theorem exec_compose (low mid high : Byte) : exec (.compose low mid high) s =
    .next (s.driveAc (composeAddress low mid high)) := rfl

/-- A meaning that is not DECODED has no fields. -/
def Fieldless (rm : RegisterMeaning) : Prop := rm.cls ≠ .decoded → rm = .empty rm.cls

theorem fieldless_decoded (f0 f1 f2 f3 f4 f5 : BitVec 17) : Fieldless (decoded f0 f1 f2 f3 f4 f5) :=
  fun h => absurd rfl h

theorem fieldless_empty (c : RegClass) : Fieldless (.empty c) := fun _ => rfl

theorem regDec_fieldless (rw : RegisterWrite) (xv m : Bool) : Fieldless (regDec rw xv m) := by
  unfold regDec
  split <;> first | exact fieldless_decoded _ _ _ _ _ _ | exact fieldless_empty _

/-- Everything `exec` can do: drive the composer's address, or drive a SINGLE, PAIR or MEMACC result. -/
theorem exec_cases (i : Instr) (s : State) :
    (∃ low mid high, i = .compose low mid high ∧ exec i s = .next (s.driveAc (composeAddress low mid high))) ∨
    (∃ index value rm, Fieldless rm ∧ ¬i.IsCompose ∧ (∀ i0 v0 i1 v1, i ≠ .pair i0 v0 i1 v1) ∧
      exec i s = .next (s.driveResult (.ofSingle ⟨index, value⟩ rm))) ∨
    (∃ i0 v0 i1 v1, i = .pair i0 v0 i1 v1 ∧
      exec i s = .next (s.driveResult (pairPorts ⟨i0, v0⟩ ⟨i1, v1⟩ s.inp.extendedVram s.inp.mode320))) ∨
    (∃ code f, ¬i.IsCompose ∧ (∀ i0 v0 i1 v1, i ≠ .pair i0 v0 i1 v1) ∧ exec i s = driveMad code (portOf code) f s) := by
  cases i with
  | compose low mid high => exact .inl ⟨low, mid, high, rfl, rfl⟩
  | pair i0 v0 i1 v1 => exact .inr (.inr (.inl ⟨i0, v0, i1, v1, rfl, rfl⟩))
  | _ =>
    first
      | exact .inr (.inl ⟨_, _, _, fieldless_decoded _ _ _ _ _ _, nofun, nofun, rfl⟩)
      | exact .inr (.inl ⟨_, _, _, fieldless_empty _, nofun, nofun, rfl⟩)
      | exact .inr (.inr (.inr ⟨_, _, nofun, nofun, rfl⟩))
/-- `step` with the fetched instruction named. -/
theorem step_eq (i : Instr) (h : fetchInstr s.present.inp = i) : step s = andThen (exec i s.present)
    (exec (fetchCompose s.present.inp)) := by
  rw [step, h]

/-- Placing a command word puts one vector in front of what the caller presents, and changes nothing else. -/
theorem placeWord_of_some (s : State) (nbits w : Nat) (x : Inputs) (h : s.inp.withWord nbits w = some x) :
    s.placeWord nbits w = s.setCaller (x :: s.caller) := by
  simp only [State.placeWord, h]

/-- Placing what is no command word changes nothing. -/
theorem placeWord_of_none (s : State) (nbits w : Nat) (h : s.inp.withWord nbits w = none) :
    s.placeWord nbits w = s := by
  simp only [State.placeWord, h]

/-- The composer's bundle on the ports, encoded and decoded, is the ports. -/
theorem fetchCompose_eq (x : Inputs) : fetchCompose x = .compose x.acLow x.acMid x.acHigh := by
  simp only [fetchCompose, Inputs.composerWord, decode, decodeAc24]
  congr 1 <;> apply BitVec.eq_of_getLsbD_eq <;> intro i hi <;> interval_cases i <;> simp [ac24Word]

end Sys2Proof.Machine
end

