-- ==== Sys2Proof/Laws/Operands.lean ====
section
/-!
SUPPORT. What each operand form computes, as numbers: one lemma per form.
-/

namespace Sys2Proof.Machine

theorem extract_toNat {n : Nat} (v : BitVec n) (lo w : Nat) : (extract v lo w).toNat = bitsOf v lo w := by
  simp [extract, bitsOf, BitVec.extractLsb'_toNat, Nat.shiftRight_eq_div_pow]

theorem bitsOf_lt {n : Nat} (v : BitVec n) (lo w : Nat) : bitsOf v lo w < 2 ^ w :=
  Nat.mod_lt _ (Nat.two_pow_pos w)

/-- A field's slot holds the field times `2^shift`; nothing is lost (R166). -/
theorem slot_toNat (v : Byte) (lo w shift : Nat) (h : w + shift ≤ 17) :
    (slot v lo w shift).toNat = bitsOf v lo w * 2 ^ shift := by
  have hb := bitsOf_lt v lo w
  have hw : 2 ^ w * 2 ^ shift ≤ 2 ^ 17 := by
    rw [← Nat.pow_add]; exact Nat.pow_le_pow_right (by decide) h
  have hs : bitsOf v lo w * 2 ^ shift < 2 ^ w * 2 ^ shift :=
    Nat.mul_lt_mul_of_pos_right hb (Nat.two_pow_pos shift)
  have h17 : bitsOf v lo w < 2 ^ 17 :=
    lt_of_lt_of_le hb (Nat.pow_le_pow_right (by decide) (by omega))
  rw [slot, BitVec.toNat_shiftLeft, BitVec.toNat_setWidth, extract_toNat, Nat.mod_eq_of_lt h17, Nat.shiftLeft_eq,
    Nat.mod_eq_of_lt (lt_of_lt_of_le hs hw)]

theorem flag_toNat (v : Byte) (b : Nat) : (flag v b).toNat = bitsOf v b 1 := by
  rw [flag, slot_toNat _ _ _ _ (by decide)]; simp

theorem shiftLeft_or_toNat {n m k : Nat} (a : BitVec n) (b : BitVec m) (hn : n + m ≤ k) :
    ((a.setWidth k <<< m) ||| b.setWidth k).toNat = a.toNat * 2 ^ m + b.toNat := by
  have ha := a.isLt
  have hb := b.isLt
  have h : a.toNat * 2 ^ m < 2 ^ k :=
    lt_of_lt_of_le (Nat.mul_lt_mul_of_pos_right ha (Nat.two_pow_pos m))
      (by rw [← Nat.pow_add]; exact Nat.pow_le_pow_right (by decide) hn)
  have ha' : a.toNat < 2 ^ k := lt_of_lt_of_le ha (Nat.pow_le_pow_right (by decide) (by omega))
  have hb' : b.toNat < 2 ^ k := lt_of_lt_of_le hb (Nat.pow_le_pow_right (by decide) (by omega))
  rw [BitVec.toNat_or, BitVec.toNat_shiftLeft, BitVec.toNat_setWidth, BitVec.toNat_setWidth, Nat.mod_eq_of_lt ha',
    Nat.mod_eq_of_lt hb', Nat.shiftLeft_eq, Nat.mod_eq_of_lt h, ← Nat.shiftLeft_eq, Nat.shiftLeft_add_eq_or_of_lt hb]

/-- The address's two parts do not overlap, so OR is addition (R135). -/
theorem madAddress_toNat (aHi : BitVec 2) (aLo : BitVec 14) :
    (madAddress aHi aLo).toNat = aHi.toNat * 2 ^ 14 + aLo.toNat :=
  shiftLeft_or_toNat aHi aLo (by decide)

/-- The value written to 0x94 is the high byte (R152). -/
theorem dmaLength_toNat (v93 v94 : Byte) : (dmaLength v93 v94).toNat = v94.toNat * 256 + v93.toNat :=
  shiftLeft_or_toNat v94 v93 (by decide)

theorem dmaByteCount_toNat (l : BitVec 16) : (dmaByteCount l).toNat = 2 * l.toNat := by
  have := l.isLt
  rw [dmaByteCount, BitVec.toNat_shiftLeft, BitVec.toNat_setWidth, Nat.shiftLeft_eq]
  omega

theorem assembled_toNat (low mid high : Byte) :
    (assembled low mid high).toNat = high.toNat * 65536 + mid.toNat * 256 + low.toNat := by
  have h : assembled low mid high =
      (high.setWidth 24 <<< 16) ||| ((mid.setWidth 16 <<< 8) ||| low.setWidth 16).setWidth 24 := by
    rw [assembled, BitVec.or_assoc]
    congr 1
    ext i hi
    simp only [BitVec.getElem_or, BitVec.getElem_shiftLeft, BitVec.getElem_setWidth, BitVec.getLsbD_or,
      BitVec.getLsbD_shiftLeft, BitVec.getLsbD_setWidth]
    by_cases h16 : i < 16
    · simp [h16, show i - 8 < 16 by omega]
    · simp [h16, BitVec.getLsbD_of_ge low i (by omega), BitVec.getLsbD_of_ge mid (i - 8) (by omega)]
  rw [h, shiftLeft_or_toNat high _ (by decide), shiftLeft_or_toNat mid low (by decide)]
  omega

/-- The composer's result at the formula reading (R160). -/
theorem composeAddress_toNat (low mid high : Byte) :
    (composeAddress low mid high).toNat = 2 * (high.toNat * 65536 + mid.toNat * 256 + low.toNat) := by
  have := (assembled low mid high).isLt
  show ((assembled low mid high).setWidth 25 <<< 1).toNat = _
  rw [BitVec.toNat_shiftLeft, BitVec.toNat_setWidth, Nat.shiftLeft_eq, ← assembled_toNat]
  omega

end Sys2Proof.Machine
end

