-- ==== Sys2Proof/Laws/PerInstr.lean ====
section
/-!
SUPPORT. The per-instruction family EncodingInRow: the word of a well-formed instruction belongs to the opcode table's
row of its mnemonic (spec 30_encoding.md R54, R55, R63).
-/

namespace Sys2Proof.Laws.EncodingInRow

/-- The word of `i` has the width of its row, and `word & mask = match` for it. -/
def Statement (i : Instr) : Prop :=
  i.wf = true → ∃ r ∈ rowsRw16 ++ [rowRegUnk] ++ rows32 ++ [rowCompose],
    r.mnemonic = i.mnemonic ∧ r.width = (encode i).width ∧ r.matches (encode i).bits = true

theorem reg80 (value : Byte) : Statement (.reg80 value) := fun _ =>
  ⟨⟨"REG80", 16, 0x8000#32, 0xFF00#32⟩, by decide, rfl, rfl, rw16_matches 0x80#8 value⟩

theorem reg81 (value : Byte) : Statement (.reg81 value) := fun _ =>
  ⟨⟨"REG81", 16, 0x8100#32, 0xFF00#32⟩, by decide, rfl, rfl, rw16_matches 0x81#8 value⟩

theorem reg82 (value : Byte) : Statement (.reg82 value) := fun _ =>
  ⟨⟨"REG82", 16, 0x8200#32, 0xFF00#32⟩, by decide, rfl, rfl, rw16_matches 0x82#8 value⟩

theorem reg83 (value : Byte) : Statement (.reg83 value) := fun _ =>
  ⟨⟨"REG83", 16, 0x8300#32, 0xFF00#32⟩, by decide, rfl, rfl, rw16_matches 0x83#8 value⟩

theorem reg84 (value : Byte) : Statement (.reg84 value) := fun _ =>
  ⟨⟨"REG84", 16, 0x8400#32, 0xFF00#32⟩, by decide, rfl, rfl, rw16_matches 0x84#8 value⟩

theorem reg85 (value : Byte) : Statement (.reg85 value) := fun _ =>
  ⟨⟨"REG85", 16, 0x8500#32, 0xFF00#32⟩, by decide, rfl, rfl, rw16_matches 0x85#8 value⟩

theorem reg86 (value : Byte) : Statement (.reg86 value) := fun _ =>
  ⟨⟨"REG86", 16, 0x8600#32, 0xFF00#32⟩, by decide, rfl, rfl, rw16_matches 0x86#8 value⟩

theorem reg87 (value : Byte) : Statement (.reg87 value) := fun _ =>
  ⟨⟨"REG87", 16, 0x8700#32, 0xFF00#32⟩, by decide, rfl, rfl, rw16_matches 0x87#8 value⟩

theorem reg88 (value : Byte) : Statement (.reg88 value) := fun _ =>
  ⟨⟨"REG88", 16, 0x8800#32, 0xFF00#32⟩, by decide, rfl, rfl, rw16_matches 0x88#8 value⟩

theorem reg89 (value : Byte) : Statement (.reg89 value) := fun _ =>
  ⟨⟨"REG89", 16, 0x8900#32, 0xFF00#32⟩, by decide, rfl, rfl, rw16_matches 0x89#8 value⟩

theorem reg8A (value : Byte) : Statement (.reg8A value) := fun _ =>
  ⟨⟨"REG8A", 16, 0x8A00#32, 0xFF00#32⟩, by decide, rfl, rfl, rw16_matches 0x8A#8 value⟩

theorem reg8B (value : Byte) : Statement (.reg8B value) := fun _ =>
  ⟨⟨"REG8B", 16, 0x8B00#32, 0xFF00#32⟩, by decide, rfl, rfl, rw16_matches 0x8B#8 value⟩

theorem reg8C (value : Byte) : Statement (.reg8C value) := fun _ =>
  ⟨⟨"REG8C", 16, 0x8C00#32, 0xFF00#32⟩, by decide, rfl, rfl, rw16_matches 0x8C#8 value⟩

theorem reg8D (value : Byte) : Statement (.reg8D value) := fun _ =>
  ⟨⟨"REG8D", 16, 0x8D00#32, 0xFF00#32⟩, by decide, rfl, rfl, rw16_matches 0x8D#8 value⟩

theorem reg8E (value : Byte) : Statement (.reg8E value) := fun _ =>
  ⟨⟨"REG8E", 16, 0x8E00#32, 0xFF00#32⟩, by decide, rfl, rfl, rw16_matches 0x8E#8 value⟩

theorem reg8F (value : Byte) : Statement (.reg8F value) := fun _ =>
  ⟨⟨"REG8F", 16, 0x8F00#32, 0xFF00#32⟩, by decide, rfl, rfl, rw16_matches 0x8F#8 value⟩

theorem reg90 (value : Byte) : Statement (.reg90 value) := fun _ =>
  ⟨⟨"REG90", 16, 0x9000#32, 0xFF00#32⟩, by decide, rfl, rfl, rw16_matches 0x90#8 value⟩

theorem reg91 (value : Byte) : Statement (.reg91 value) := fun _ =>
  ⟨⟨"REG91", 16, 0x9100#32, 0xFF00#32⟩, by decide, rfl, rfl, rw16_matches 0x91#8 value⟩

theorem reg92 (value : Byte) : Statement (.reg92 value) := fun _ =>
  ⟨⟨"REG92", 16, 0x9200#32, 0xFF00#32⟩, by decide, rfl, rfl, rw16_matches 0x92#8 value⟩

theorem reg93 (value : Byte) : Statement (.reg93 value) := fun _ =>
  ⟨⟨"REG93", 16, 0x9300#32, 0xFF00#32⟩, by decide, rfl, rfl, rw16_matches 0x93#8 value⟩

theorem reg94 (value : Byte) : Statement (.reg94 value) := fun _ =>
  ⟨⟨"REG94", 16, 0x9400#32, 0xFF00#32⟩, by decide, rfl, rfl, rw16_matches 0x94#8 value⟩

theorem reg95 (value : Byte) : Statement (.reg95 value) := fun _ =>
  ⟨⟨"REG95", 16, 0x9500#32, 0xFF00#32⟩, by decide, rfl, rfl, rw16_matches 0x95#8 value⟩

theorem reg96 (value : Byte) : Statement (.reg96 value) := fun _ =>
  ⟨⟨"REG96", 16, 0x9600#32, 0xFF00#32⟩, by decide, rfl, rfl, rw16_matches 0x96#8 value⟩

theorem reg97 (value : Byte) : Statement (.reg97 value) := fun _ =>
  ⟨⟨"REG97", 16, 0x9700#32, 0xFF00#32⟩, by decide, rfl, rfl, rw16_matches 0x97#8 value⟩

theorem regUnk (index value : Byte) : Statement (.regUnk index value) := fun _ =>
  ⟨rowRegUnk, by decide, rfl, rfl, matches_of_mask_zero _ _ _⟩

theorem pair (index0 value0 index1 value1 : Byte) : Statement (.pair index0 value0 index1 value1) := fun h =>
  ⟨⟨"PAIR", 32, 0x80000000#32, 0xE0000000#32⟩, by decide, rfl, rfl, pair_matches index0 value0 index1 value1 h⟩

theorem madVramRead (f : MadFields) : Statement (.madVramRead f) := fun _ =>
  ⟨⟨"MAD.VRAM_READ", 32, 0x00000000#32, 0xC0000030#32⟩, by decide, rfl, rfl, mad_matches false false false false f⟩

theorem madVramWrite (f : MadFields) : Statement (.madVramWrite f) := fun _ =>
  ⟨⟨"MAD.VRAM_WRITE", 32, 0x40000000#32, 0xC0000030#32⟩, by decide, rfl, rfl, mad_matches false false false true f⟩

theorem madUnk2 (f : MadFields) : Statement (.madUnk2 f) := fun h =>
  ⟨⟨"MAD.UNK2", 32, 0xA0000000#32, 0xE0000030#32⟩, by decide, rfl, rfl, mad_matches_bit13 false false f h⟩

theorem madCramWrite (f : MadFields) : Statement (.madCramWrite f) := fun _ =>
  ⟨⟨"MAD.CRAM_WRITE", 32, 0xC0000000#32, 0xC0000030#32⟩, by decide, rfl, rfl, mad_matches false false true true f⟩

theorem madVsramRead (f : MadFields) : Statement (.madVsramRead f) := fun _ =>
  ⟨⟨"MAD.VSRAM_READ", 32, 0x00000010#32, 0xC0000030#32⟩, by decide, rfl, rfl, mad_matches false true false false f⟩

theorem madVsramWrite (f : MadFields) : Statement (.madVsramWrite f) := fun _ =>
  ⟨⟨"MAD.VSRAM_WRITE", 32, 0x40000010#32, 0xC0000030#32⟩, by decide, rfl, rfl, mad_matches false true false true f⟩

theorem madUnk6 (f : MadFields) : Statement (.madUnk6 f) := fun h =>
  ⟨⟨"MAD.UNK6", 32, 0xA0000010#32, 0xE0000030#32⟩, by decide, rfl, rfl, mad_matches_bit13 false true f h⟩

theorem madUnk7 (f : MadFields) : Statement (.madUnk7 f) := fun _ =>
  ⟨⟨"MAD.UNK7", 32, 0xC0000010#32, 0xC0000030#32⟩, by decide, rfl, rfl, mad_matches false true true true f⟩

theorem madCramRead (f : MadFields) : Statement (.madCramRead f) := fun _ =>
  ⟨⟨"MAD.CRAM_READ", 32, 0x00000020#32, 0xC0000030#32⟩, by decide, rfl, rfl, mad_matches true false false false f⟩

theorem madUnk9 (f : MadFields) : Statement (.madUnk9 f) := fun _ =>
  ⟨⟨"MAD.UNK9", 32, 0x40000020#32, 0xC0000030#32⟩, by decide, rfl, rfl, mad_matches true false false true f⟩

theorem madUnkA (f : MadFields) : Statement (.madUnkA f) := fun h =>
  ⟨⟨"MAD.UNKA", 32, 0xA0000020#32, 0xE0000030#32⟩, by decide, rfl, rfl, mad_matches_bit13 true false f h⟩

theorem madUnkB (f : MadFields) : Statement (.madUnkB f) := fun _ =>
  ⟨⟨"MAD.UNKB", 32, 0xC0000020#32, 0xC0000030#32⟩, by decide, rfl, rfl, mad_matches true false true true f⟩

theorem madVramByteRead (f : MadFields) : Statement (.madVramByteRead f) := fun _ =>
  ⟨⟨"MAD.VRAM_BYTE_READ", 32, 0x00000030#32, 0xC0000030#32⟩, by decide, rfl, rfl, mad_matches true true false false f⟩

theorem madVramByteReadAlt (f : MadFields) : Statement (.madVramByteReadAlt f) := fun _ =>
  ⟨⟨"MAD.VRAM_BYTE_READ_ALT", 32, 0x40000030#32, 0xC0000030#32⟩, by decide, rfl, rfl, mad_matches true true false true f⟩

theorem madUnkE (f : MadFields) : Statement (.madUnkE f) := fun h =>
  ⟨⟨"MAD.UNKE", 32, 0xA0000030#32, 0xE0000030#32⟩, by decide, rfl, rfl, mad_matches_bit13 true true f h⟩

theorem madUnkF (f : MadFields) : Statement (.madUnkF f) := fun _ =>
  ⟨⟨"MAD.UNKF", 32, 0xC0000030#32, 0xC0000030#32⟩, by decide, rfl, rfl, mad_matches true true true true f⟩

theorem compose (low mid high : Byte) : Statement (.compose low mid high) := fun _ =>
  ⟨rowCompose, by decide, rfl, rfl, matches_of_mask_zero _ _ _⟩

end Sys2Proof.Laws.EncodingInRow
end

