-- ==== Sys2Proof/Tests/Slice0.lean ====
section
/-!
SUPPORT. Tests. Expected values come from the spec's vectors (95_test_vectors.md, ids S, G, M, P, A; program 5) or are
worked out by hand from the rule a test names. The theorems named `test_witness_…` show, for each obligation that has
hypotheses, concrete values that meet them together.
-/

namespace Sys2Proof.Tests

open Sys2Proof Sys2Proof.Machine

/-! ## Well-formedness: each check, and an instruction it refuses -/

/-- R54: an index with a row of its own is no REGUNK. -/
theorem test_wf_refuses_regUnk_80 : (Instr.regUnk 0x80#8 0#8).wf = false := by decide
theorem test_wf_refuses_regUnk_97 : (Instr.regUnk 0x97#8 0#8).wf = false := by decide
theorem test_wf_admits_regUnk_7F_98 :
    (Instr.regUnk 0x7F#8 0#8).wf = true ∧ (Instr.regUnk 0x98#8 0#8).wf = true := by decide

/-- R49: the first index of a pair carries the tag, the second need not. -/
theorem test_wf_refuses_pair_7F : (Instr.pair 0x7F#8 0#8 0x80#8 0#8).wf = false := by decide
theorem test_wf_refuses_pair_A0 : (Instr.pair 0xA0#8 0#8 0x80#8 0#8).wf = false := by decide
theorem test_wf_admits_pair_80_9F :
    (Instr.pair 0x80#8 0#8 0x00#8 0#8).wf = true ∧ (Instr.pair 0x9F#8 0#8 0xFF#8 0#8).wf = true := by decide

/-- R55, R56: the four codes with CD1 CD0 = 10 have address bit 13 set. -/
theorem test_wf_refuses_unk2_without_bit13 : (Instr.madUnk2 ⟨0x1FFF#14, 3#2, true, true⟩).wf = false := by decide
theorem test_wf_refuses_unk6_without_bit13 : (Instr.madUnk6 ⟨0x1FFF#14, 3#2, true, true⟩).wf = false := by decide
theorem test_wf_refuses_unkA_without_bit13 : (Instr.madUnkA ⟨0x1FFF#14, 3#2, true, true⟩).wf = false := by decide
theorem test_wf_refuses_unkE_without_bit13 : (Instr.madUnkE ⟨0x1FFF#14, 3#2, true, true⟩).wf = false := by decide
theorem test_wf_admits_unk7_without_bit13 : (Instr.madUnk7 ⟨0x1FFF#14, 3#2, true, true⟩).wf = true := by decide

/-! ## Decoding: a word of every row, written bit by bit from its layout (R48 to R51, R54, R55) -/

/-- RW16, indices 0x80 to 0x85 (R48, R54). -/
theorem test_decode_reg80_to_reg85 :
    decode (.w16 0b10000000_10100101#16) = .reg80 0b10100101#8 ∧
    decode (.w16 0b10000001_00111100#16) = .reg81 0b00111100#8 ∧
    decode (.w16 0b10000010_10100101#16) = .reg82 0b10100101#8 ∧
    decode (.w16 0b10000011_00111100#16) = .reg83 0b00111100#8 ∧
    decode (.w16 0b10000100_10100101#16) = .reg84 0b10100101#8 ∧
    decode (.w16 0b10000101_00111100#16) = .reg85 0b00111100#8 := by decide

/-- RW16, indices 0x86 to 0x8B (R48, R54). -/
theorem test_decode_reg86_to_reg8B :
    decode (.w16 0b10000110_10100101#16) = .reg86 0b10100101#8 ∧
    decode (.w16 0b10000111_00111100#16) = .reg87 0b00111100#8 ∧
    decode (.w16 0b10001000_10100101#16) = .reg88 0b10100101#8 ∧
    decode (.w16 0b10001001_00111100#16) = .reg89 0b00111100#8 ∧
    decode (.w16 0b10001010_10100101#16) = .reg8A 0b10100101#8 ∧
    decode (.w16 0b10001011_00111100#16) = .reg8B 0b00111100#8 := by decide

/-- RW16, indices 0x8C to 0x91 (R48, R54). -/
theorem test_decode_reg8C_to_reg91 :
    decode (.w16 0b10001100_10100101#16) = .reg8C 0b10100101#8 ∧
    decode (.w16 0b10001101_00111100#16) = .reg8D 0b00111100#8 ∧
    decode (.w16 0b10001110_10100101#16) = .reg8E 0b10100101#8 ∧
    decode (.w16 0b10001111_00111100#16) = .reg8F 0b00111100#8 ∧
    decode (.w16 0b10010000_10100101#16) = .reg90 0b10100101#8 ∧
    decode (.w16 0b10010001_00111100#16) = .reg91 0b00111100#8 := by decide

/-- RW16, indices 0x92 to 0x97 (R48, R54). -/
theorem test_decode_reg92_to_reg97 :
    decode (.w16 0b10010010_10100101#16) = .reg92 0b10100101#8 ∧
    decode (.w16 0b10010011_00111100#16) = .reg93 0b00111100#8 ∧
    decode (.w16 0b10010100_10100101#16) = .reg94 0b10100101#8 ∧
    decode (.w16 0b10010101_00111100#16) = .reg95 0b00111100#8 ∧
    decode (.w16 0b10010110_10100101#16) = .reg96 0b10100101#8 ∧
    decode (.w16 0b10010111_00111100#16) = .reg97 0b00111100#8 := by decide

/-- REGUNK on both sides of the listed indices and at the ends (R54; vectors G91, G92, G93, G94). -/
theorem test_decode_regUnk :
    decode (.w16 0b01111111_00000000#16) = .regUnk 0x7F#8 0#8 ∧
    decode (.w16 0b10011000_00000000#16) = .regUnk 0x98#8 0#8 ∧
    decode (.w16 0b00000000_00000000#16) = .regUnk 0#8 0#8 ∧
    decode (.w16 0b11111111_11111111#16) = .regUnk 0xFF#8 0xFF#8 := by decide

/-- PAIR at both ends of its range and in the middle (R49; vectors P1, P3, P4). -/
theorem test_decode_pair :
    decode (.w32 0b100_00000_00000000_00000000_00000000#32) = .pair 0x80#8 0#8 0#8 0#8 ∧
    decode (.w32 0b100_11111_11111111_11111111_11111111#32) = .pair 0x9F#8 0xFF#8 0xFF#8 0xFF#8 ∧
    decode (.w32 0b100_00001_01110100_10001100_10000001#32) = .pair 0x81#8 0x74#8 0x8C#8 0x81#8 := by decide

/-- MAD32, codes 0 to 3, the ignored bits not zero (R50, R55, R57). -/
theorem test_decode_mad0_to_mad3 :
    decode (.w32 0b00_10101011001110_10100101_01_00_01_01#32) =
      .madVramRead ⟨0b10101011001110#14, 1#2, false, true⟩ ∧
    decode (.w32 0b01_01001101010011_10100101_10_00_01_10#32) =
      .madVramWrite ⟨0b01001101010011#14, 2#2, true, false⟩ ∧
    decode (.w32 0b10_10101011001110_10100101_01_00_01_11#32) =
      .madUnk2 ⟨0b10101011001110#14, 3#2, false, true⟩ ∧
    decode (.w32 0b11_01001101010011_10100101_11_00_01_01#32) =
      .madCramWrite ⟨0b01001101010011#14, 1#2, true, true⟩ := by decide

/-- MAD32, codes 4 to 7, the ignored bits not zero (R50, R55, R57). -/
theorem test_decode_mad4_to_mad7 :
    decode (.w32 0b00_10101011001110_10100101_01_01_01_10#32) =
      .madVsramRead ⟨0b10101011001110#14, 2#2, false, true⟩ ∧
    decode (.w32 0b01_01001101010011_10100101_10_01_01_11#32) =
      .madVsramWrite ⟨0b01001101010011#14, 3#2, true, false⟩ ∧
    decode (.w32 0b10_10101011001110_10100101_01_01_01_01#32) =
      .madUnk6 ⟨0b10101011001110#14, 1#2, false, true⟩ ∧
    decode (.w32 0b11_01001101010011_10100101_10_01_01_10#32) =
      .madUnk7 ⟨0b01001101010011#14, 2#2, true, false⟩ := by decide

/-- MAD32, codes 8 to 11, the ignored bits not zero (R50, R55, R57). -/
theorem test_decode_mad8_to_madB :
    decode (.w32 0b00_10101011001110_10100101_01_10_01_11#32) =
      .madCramRead ⟨0b10101011001110#14, 3#2, false, true⟩ ∧
    decode (.w32 0b01_01001101010011_10100101_11_10_01_01#32) =
      .madUnk9 ⟨0b01001101010011#14, 1#2, true, true⟩ ∧
    decode (.w32 0b10_10101011001110_10100101_01_10_01_10#32) =
      .madUnkA ⟨0b10101011001110#14, 2#2, false, true⟩ ∧
    decode (.w32 0b11_01001101010011_10100101_10_10_01_11#32) =
      .madUnkB ⟨0b01001101010011#14, 3#2, true, false⟩ := by decide

/-- MAD32, codes 12 to 15, the ignored bits not zero (R50, R55, R57). -/
theorem test_decode_madC_to_madF :
    decode (.w32 0b00_10101011001110_10100101_01_11_01_01#32) =
      .madVramByteRead ⟨0b10101011001110#14, 1#2, false, true⟩ ∧
    decode (.w32 0b01_01001101010011_10100101_10_11_01_10#32) =
      .madVramByteReadAlt ⟨0b01001101010011#14, 2#2, true, false⟩ ∧
    decode (.w32 0b10_10101011001110_10100101_01_11_01_11#32) =
      .madUnkE ⟨0b10101011001110#14, 3#2, false, true⟩ ∧
    decode (.w32 0b11_01001101010011_10100101_11_11_01_01#32) =
      .madUnkF ⟨0b01001101010011#14, 1#2, true, true⟩ := by decide

/-- The bundle is high, mid, low from its top (R51). -/
theorem test_decode_compose :
    decode (.ac24 0b01111111_00010010_00110100#24) = .compose 0x34#8 0x12#8 0x7F#8 := by decide

/-- What is no command word at all is rejected, by name (log 17). -/
theorem test_no_such_width : commandWordOf 8 0 = .error (.noSuchWidth 8) ∧ decodeTableWord 8 0 = none := by
  exact ⟨rfl, by decide⟩
theorem test_too_wide : commandWordOf 32 0x100000000 = .error (.tooWide 32 0x100000000) ∧
    decodeTableWord 32 0x100000000 = none ∧ decodeTableWord 24 0x1000000 = none := by
  exact ⟨rfl, by decide, by decide⟩

/-- Such a number is not placed either, at the first number too wide for each port (log 17). -/
theorem test_placing_refuses_no_command_word :
    State.reset.withFetchWord 16 0x100000000 = State.reset ∧ State.reset.withFetchWord 32 0x100000000 = State.reset ∧
    State.reset.withFetchWord 24 0x1000000 = State.reset ∧ State.reset.withFetchWord 8 0 = State.reset := by decide

/-- The encoder writes ignored bits as zeros (R62): the spec's MAD VRAM_WRITE with DMA, vector M17, and program 5's
step 14. -/
theorem test_encode_mad :
    encode (.madVramWrite ⟨0#14, 0#2, true, false⟩) = .w32 0x40000080#32 ∧
    encode (.madVramByteReadAlt ⟨0x1234#14, 0#2, false, false⟩) = .w32 0x52340030#32 := by decide

/-- R61: `PAIR 0x93, 0xFF, 0x94, 0x12` is 0x93FF9412. -/
theorem test_encode_pair : encode (.pair 0x93#8 0xFF#8 0x94#8 0x12#8) = .w32 0x93FF9412#32 := by decide

/-! ## One step on one word -/

/-- The model's first state with the mode inputs set. -/
def withModes (xv m : Bool) : State :=
  State.reset.putInputs { Inputs.zero with extendedVram := xv, mode320 := m }

/-- All outputs after one step from `s` with this word placed; none where the step does not answer a state. -/
def outAfter (s : State) (nbits w : Nat) : Option Outputs :=
  match step (s.withFetchWord nbits w) with
  | .next t => some t.out
  | .fault _ => none
  | .refused _ => none

/-- What a 16-bit word shows: kind, register write, meaning. -/
def single (xv : Bool) (w : Nat) : Option (Kind × RegisterWrite × RegisterMeaning) :=
  (outAfter (withModes xv false) 16 w).map fun o => (o.res.kind, o.res.rw0, o.res.rm0)

/-- What a 32-bit word shows of a descriptor. -/
def memacc (w : Nat) : Option (Kind × Mad) :=
  (outAfter (withModes true true) 32 w).map fun o => (o.res.kind, o.res.mad)

/-- What a 32-bit word shows of a pair's two meanings. -/
def meanings (w : Nat) : Option (Kind × RegisterMeaning × RegisterMeaning) :=
  (outAfter (withModes true true) 32 w).map fun o => (o.res.kind, o.res.rm0, o.res.rm1)

/-- What a 32-bit word shows of a length. -/
def lengthOf (w : Nat) : Option (Bool × BitVec 16 × BitVec 17) :=
  (outAfter (withModes false false) 32 w).map fun o => (o.res.dmaLenValid, o.res.dmaLength, o.res.dmaByteCount)

/-- What a bundle shows. -/
def composed (b : Nat) : Option (BitVec 25) :=
  (outAfter State.reset 24 b).map Outputs.acAddress

/-- Vector G2. -/
theorem test_G2_reg80 : single false 0x8033 = some (.single, ⟨0x80, 0x33⟩, ⟨.decoded, 1, 1, 1, 1, 0, 0⟩) := by decide
/-- Vector G6. -/
theorem test_G6_reg80 : single true 0x8020 = some (.single, ⟨0x80, 0x20⟩, ⟨.decoded, 1, 0, 0, 0, 0, 0⟩) := by decide
/-- Vector G9. -/
theorem test_G9_reg81 : single false 0x8174 = some (.single, ⟨0x81, 0x74⟩, ⟨.decoded, 0, 1, 1, 1, 0, 1⟩) := by decide
/-- Vector G12. -/
theorem test_G12_reg81 : single true 0x8104 = some (.single, ⟨0x81, 0x04⟩, ⟨.decoded, 0, 0, 0, 0, 0, 1⟩) := by decide
/-- Vector G20. -/
theorem test_G20_reg82 : single false 0x8278 = some (.single, ⟨0x82, 0x78⟩, ⟨.decoded, 0x1C00, 0, 0, 0, 0, 0⟩) := by decide
/-- Vector S5. -/
theorem test_S5_reg82 : single true 0x8278 = some (.single, ⟨0x82, 0x78⟩, ⟨.decoded, 0x3C00, 0, 0, 0, 0, 0⟩) := by decide
/-- Vector G23. -/
theorem test_G23_reg83 : single false 0x83FF = some (.single, ⟨0x83, 0xFF⟩, ⟨.decoded, 0xFC00, 0, 0, 0, 0, 0⟩) := by decide
/-- Vector G25. -/
theorem test_G25_reg83 : single true 0x8301 = some (.single, ⟨0x83, 0x01⟩, ⟨.decoded, 0x400, 0, 0, 0, 0, 0⟩) := by decide
/-- Vector G27. -/
theorem test_G27_reg84 : single false 0x840F = some (.single, ⟨0x84, 0x0F⟩, ⟨.decoded, 0x1E000, 0, 0, 0, 0, 0⟩) := by decide
/-- Vector G29. -/
theorem test_G29_reg84 : single true 0x8408 = some (.single, ⟨0x84, 0x08⟩, ⟨.decoded, 0x10000, 0, 0, 0, 0, 0⟩) := by decide
/-- Vector G30. -/
theorem test_G30_reg85 : single false 0x857C = some (.single, ⟨0x85, 0x7C⟩, ⟨.decoded, 0xF800, 0, 0, 0, 0, 0⟩) := by decide
/-- Vector G32. -/
theorem test_G32_reg85 : single true 0x8580 = some (.single, ⟨0x85, 0x80⟩, ⟨.decoded, 0, 0, 0, 0, 0, 0⟩) := by decide
/-- Vector G35. -/
theorem test_G35_reg86 : single false 0x86FF = some (.single, ⟨0x86, 0xFF⟩, ⟨.unhandled, 0, 0, 0, 0, 0, 0⟩) := by decide
/-- Vector G37. -/
theorem test_G37_reg87 : single false 0x872B = some (.single, ⟨0x87, 0x2B⟩, ⟨.decoded, 0xB, 2, 0, 0, 0, 0⟩) := by decide
/-- Vector G39. -/
theorem test_G39_reg87 : single true 0x87C0 = some (.single, ⟨0x87, 0xC0⟩, ⟨.decoded, 0, 0, 0, 0, 0, 0⟩) := by decide
/-- Vector G41. -/
theorem test_G41_reg88 : single false 0x88FF = some (.single, ⟨0x88, 0xFF⟩, ⟨.unrecognized, 0, 0, 0, 0, 0, 0⟩) := by decide
/-- Vector G42. -/
theorem test_G42_reg89 : single false 0x8901 = some (.single, ⟨0x89, 0x01⟩, ⟨.unrecognized, 0, 0, 0, 0, 0, 0⟩) := by decide
/-- Vector G44. -/
theorem test_G44_reg8A : single false 0x8AFF = some (.single, ⟨0x8A, 0xFF⟩, ⟨.decoded, 0xFF, 0, 0, 0, 0, 0⟩) := by decide
/-- Vector G47. -/
theorem test_G47_reg8B : single false 0x8B02 = some (.single, ⟨0x8B, 0x02⟩, ⟨.decoded, 0, 1, 2, 0, 0, 0⟩) := by decide
/-- Vector G49. -/
theorem test_G49_reg8B : single true 0x8B04 = some (.single, ⟨0x8B, 0x04⟩, ⟨.decoded, 1, 0, 0, 0, 0, 0⟩) := by decide
/-- Vector G55. -/
theorem test_G55_reg8C : single false 0x8C04 = some (.single, ⟨0x8C, 0x04⟩, ⟨.decoded, 0, 2, 0, 0, 0, 0⟩) := by decide
/-- Vector G58. -/
theorem test_G58_reg8C : single true 0x8C89 = some (.single, ⟨0x8C, 0x89⟩, ⟨.decoded, 1, 0, 1, 0, 0, 0⟩) := by decide
/-- Vector G60. -/
theorem test_G60_reg8D : single false 0x8D3F = some (.single, ⟨0x8D, 0x3F⟩, ⟨.decoded, 0xFC00, 0, 0, 0, 0, 0⟩) := by decide
/-- Vector G62. -/
theorem test_G62_reg8D : single true 0x8DC0 = some (.single, ⟨0x8D, 0xC0⟩, ⟨.decoded, 0, 0, 0, 0, 0, 0⟩) := by decide
/-- Vector G64. -/
theorem test_G64_reg8E : single false 0x8EFF = some (.single, ⟨0x8E, 0xFF⟩, ⟨.unhandled, 0, 0, 0, 0, 0, 0⟩) := by decide
/-- Vector G65. -/
theorem test_G65_reg8F : single false 0x8F02 = some (.single, ⟨0x8F, 0x02⟩, ⟨.decoded, 2, 0, 0, 0, 0, 0⟩) := by decide
/-- Vector G68. -/
theorem test_G68_reg90 : single false 0x9001 = some (.single, ⟨0x90, 0x01⟩, ⟨.decoded, 0, 1, 0, 0, 0, 0⟩) := by decide
/-- Vector G73. -/
theorem test_G73_reg90 : single true 0x9030 = some (.single, ⟨0x90, 0x30⟩, ⟨.decoded, 3, 0, 0, 0, 0, 0⟩) := by decide
/-- Vector G75. -/
theorem test_G75_reg91 : single false 0x918A = some (.single, ⟨0x91, 0x8A⟩, ⟨.decoded, 1, 0xA, 0, 0, 0, 0⟩) := by decide
/-- Vector G77. -/
theorem test_G77_reg91 : single true 0x9170 = some (.single, ⟨0x91, 0x70⟩, ⟨.decoded, 0, 0, 0, 0, 0, 0⟩) := by decide
/-- Vector G78. -/
theorem test_G78_reg92 : single false 0x929F = some (.single, ⟨0x92, 0x9F⟩, ⟨.decoded, 1, 0xF, 0, 0, 0, 0⟩) := by decide
/-- Vector G79. -/
theorem test_G79_reg92 : single true 0x9210 = some (.single, ⟨0x92, 0x10⟩, ⟨.decoded, 0, 0, 0, 0, 0, 0⟩) := by decide
/-- Vector G81. -/
theorem test_G81_reg93 : single false 0x93AB = some (.single, ⟨0x93, 0xAB⟩, ⟨.decoded, 0xAB, 0, 0, 0, 0, 0⟩) := by decide
/-- Vector G82. -/
theorem test_G82_reg94 : single false 0x94CD = some (.single, ⟨0x94, 0xCD⟩, ⟨.decoded, 0xCD, 0, 0, 0, 0, 0⟩) := by decide
/-- Vector G83. -/
theorem test_G83_reg95 : single false 0x9512 = some (.single, ⟨0x95, 0x12⟩, ⟨.decoded, 0x12, 0, 0, 0, 0, 0⟩) := by decide
/-- Vector G84. -/
theorem test_G84_reg96 : single false 0x9634 = some (.single, ⟨0x96, 0x34⟩, ⟨.decoded, 0x34, 0, 0, 0, 0, 0⟩) := by decide
/-- Vector G87. -/
theorem test_G87_reg97 : single false 0x9740 = some (.single, ⟨0x97, 0x40⟩, ⟨.decoded, 0x40, 1, 0, 0, 0, 0⟩) := by decide
/-- Vector G89. -/
theorem test_G89_reg97 : single true 0x97C0 = some (.single, ⟨0x97, 0xC0⟩, ⟨.decoded, 0x40, 3, 0, 0, 0, 0⟩) := by decide
/-- Vector G96. -/
theorem test_G96_reg02 : single false 0x0238 = some (.single, ⟨0x02, 0x38⟩, ⟨.unrecognized, 0, 0, 0, 0, 0, 0⟩) := by decide
/-- Vector G99. -/
theorem test_G99_reg99 : single true 0xFFFF9900 = some (.single, ⟨0x99, 0x00⟩, ⟨.unrecognized, 0, 0, 0, 0, 0, 0⟩) := by decide

/-- Program 5, step 1. -/
theorem test_program5_madVramRead : memacc 0x12340000 = some (.memacc, ⟨0b0000, .vramRead, 0x1234, false, false⟩) := by decide
/-- Program 5, step 2. -/
theorem test_program5_madVramWrite : memacc 0x52340000 = some (.memacc, ⟨0b0001, .vramWrite, 0x1234, false, false⟩) := by decide
/-- Program 5, step 3. -/
theorem test_program5_madUnk2 : memacc 0xB2340000 = some (.memacc, ⟨0b0010, .unknown, 0x3234, false, false⟩) := by decide
/-- Program 5, step 4. -/
theorem test_program5_madCramWrite : memacc 0xD2340000 = some (.memacc, ⟨0b0011, .cramWrite, 0x1234, false, false⟩) := by decide
/-- Program 5, step 5. -/
theorem test_program5_madVsramRead : memacc 0x12340010 = some (.memacc, ⟨0b0100, .vsramRead, 0x1234, false, false⟩) := by decide
/-- Program 5, step 6. -/
theorem test_program5_madVsramWrite : memacc 0x52340010 = some (.memacc, ⟨0b0101, .vsramWrite, 0x1234, false, false⟩) := by decide
/-- Program 5, step 7. -/
theorem test_program5_madUnk6 : memacc 0xB2340010 = some (.memacc, ⟨0b0110, .unknown, 0x3234, false, false⟩) := by decide
/-- Program 5, step 8. -/
theorem test_program5_madUnk7 : memacc 0xD2340010 = some (.memacc, ⟨0b0111, .unknown, 0x1234, false, false⟩) := by decide
/-- Program 5, step 9. -/
theorem test_program5_madCramRead : memacc 0x12340020 = some (.memacc, ⟨0b1000, .cramRead, 0x1234, false, false⟩) := by decide
/-- Program 5, step 10. -/
theorem test_program5_madUnk9 : memacc 0x52340020 = some (.memacc, ⟨0b1001, .unknown, 0x1234, false, false⟩) := by decide
/-- Program 5, step 11. -/
theorem test_program5_madUnkA : memacc 0xB2340020 = some (.memacc, ⟨0b1010, .unknown, 0x3234, false, false⟩) := by decide
/-- Program 5, step 12. -/
theorem test_program5_madUnkB : memacc 0xD2340020 = some (.memacc, ⟨0b1011, .unknown, 0x1234, false, false⟩) := by decide
/-- Program 5, step 13. -/
theorem test_program5_madVramByteRead : memacc 0x12340030 = some (.memacc, ⟨0b1100, .vramByteRead, 0x1234, false, false⟩) := by decide
/-- Program 5, step 14. -/
theorem test_program5_madVramByteReadAlt : memacc 0x52340030 = some (.memacc, ⟨0b1101, .vramByteRead, 0x1234, false, false⟩) := by decide
/-- Program 5, step 15. -/
theorem test_program5_madUnkE : memacc 0xB2340030 = some (.memacc, ⟨0b1110, .unknown, 0x3234, false, false⟩) := by decide
/-- Program 5, step 16. -/
theorem test_program5_madUnkF : memacc 0xD2340030 = some (.memacc, ⟨0b1111, .unknown, 0x1234, false, false⟩) := by decide
/-- Vector M21. -/
theorem test_M21 : memacc 0x3FFF0003 = some (.memacc, ⟨0b0000, .vramRead, 0xFFFF, false, false⟩) := by decide
/-- Vector M24. -/
theorem test_M24 : memacc 0x40000003 = some (.memacc, ⟨0b0001, .vramWrite, 0xC000, false, false⟩) := by decide
/-- Vector M37. -/
theorem test_M37 : memacc 0xBFFF0000 = some (.memacc, ⟨0b0010, .unknown, 0x3FFF, false, false⟩) := by decide
/-- Vector M29. -/
theorem test_M29 : memacc 0xE0000000 = some (.memacc, ⟨0b0011, .cramWrite, 0x2000, false, false⟩) := by decide
/-- Vector M20. -/
theorem test_M20 : memacc 0xFFFFFFFF = some (.memacc, ⟨0b1111, .unknown, 0xFFFF, true, true⟩) := by decide
/-- Vector M35. -/
theorem test_M35 : memacc 0x7FFFFFFF = some (.memacc, ⟨0b1101, .vramByteRead, 0xFFFF, true, true⟩) := by decide
/-- Vector M33. -/
theorem test_M33 : memacc 0x00008174 = some (.memacc, ⟨0b1100, .vramByteRead, 0x0000, false, true⟩) := by decide
/-- Vector M32. -/
theorem test_M32 : memacc 0x00008C81 = some (.memacc, ⟨0b0000, .vramRead, 0x4000, true, false⟩) := by decide

/-- Vector P4: both halves, each under its own index. -/
theorem test_P4_pair : meanings 0x81748C81 =
    some (.pair, ⟨.decoded, 0, 1, 1, 1, 0, 1⟩, ⟨.decoded, 1, 0, 0, 0, 0, 0⟩) := by decide
/-- Vectors P3, P17 and P18. -/
theorem test_P3_P17_P18_pair :
    meanings 0x9FFFFFFF = some (.pair, .empty .unrecognized, .empty .unrecognized) ∧
    meanings 0x88008900 = some (.pair, .empty .unrecognized, .empty .unrecognized) ∧
    meanings 0x97C09780 = some (.pair, ⟨.decoded, 0x40, 3, 0, 0, 0, 0⟩, ⟨.decoded, 0, 2, 0, 0, 0, 0⟩) := by decide
/-- Vectors S1 and S2. -/
theorem test_S1_S2_length :
    lengthOf 0x93FF9412 = some (true, 0x12FF, 0x025FE) ∧ lengthOf 0x941293FF = some (true, 0x12FF, 0x025FE) := by decide
/-- Vectors P6, P7 and P8. -/
theorem test_P6_P7_P8_length :
    lengthOf 0x93009400 = some (true, 0, 0) ∧ lengthOf 0x93FF94FF = some (true, 0xFFFF, 0x1FFFE) ∧
    lengthOf 0x9400937F = some (true, 0x007F, 0x000FE) := by decide
/-- Vectors P9, P10, P11 and P12. -/
theorem test_P9_P10_P11_P12_no_length :
    lengthOf 0x93019301 = some (false, 0, 0) ∧ lengthOf 0x94029402 = some (false, 0, 0) ∧
    lengthOf 0x93FF8F02 = some (false, 0, 0) ∧ lengthOf 0x94121234 = some (false, 0, 0) := by decide

/-- Vectors S7, A3, A4 and A5; the bundle is high, mid, low. -/
theorem test_S7_A3_A4_A5_compose :
    composed 0x010000 = some 0x20000 ∧ composed 0x000100 = some 0x200 ∧ composed 0x000080 = some 0x100 ∧
    composed 0x7F1234 = some 0xFE2468 := by decide
/-- Vectors A6, A7, A8 and A10. -/
theorem test_A6_A7_A8_A10_compose :
    composed 0x3FFFFF = some 0x7FFFFE ∧ composed 0x400000 = some 0x800000 ∧ composed 0x800000 = some 0x1000000 ∧
    composed 0xFFFFFF = some 0x1FFFFFE := by decide
/-- Vector A11: wider numbers are reduced to 8 bits. -/
theorem test_A11_compose : composeNumbers 0x100 0x1FF 0x201 = 0x3FE00 := by decide
/-- 93_implementation_defined.md U2's table of the three readings. -/
theorem test_U2_readings :
    composeUnder .resultMask23 0xFF#8 0xFF#8 0xFF#8 = 0x7FFFFE ∧ composeUnder .highMask7 0xFF#8 0xFF#8 0xFF#8 = 0xFFFFFE ∧
    composeUnder .resultMask23 0#8 0#8 0x40#8 = 0 ∧ composeUnder .highMask7 0#8 0#8 0x80#8 = 0 := by decide

/-- Program 4, step 1, with both mode inputs 0, and vector M31 with both 1. -/
theorem test_program4_modes :
    single false 0x8278 = some (.single, ⟨0x82, 0x78⟩, ⟨.decoded, 0x1C00, 0, 0, 0, 0, 0⟩) ∧
    memacc 0x4000FFCF = some (.memacc, ⟨0b0001, .vramWrite, 0xC000, true, true⟩) := by decide

/-- One step drives both results: a placed register write leaves the composer's bytes as they stand on the ports. -/
theorem test_step_drives_both :
    (outAfter (State.reset.putInputs ⟨0, false, false, false, 0x34, 0x12, 0x7F⟩) 16 0x8F02).map
      (fun o => (o.res.rw0, o.acAddress)) = some (⟨0x8F, 0x02⟩, 0xFE2468) := by decide

/-- Wire codes (R25, R71, R82). -/
theorem test_wire_codes :
    Kind.code .memacc = 2 ∧ RegClass.code .unhandled = 1 ∧ RegClass.code .decoded = 2 ∧ Port.code .vramByteRead = 2 ∧
    Port.code .cramWrite = 4 ∧ Port.code .unknown = 7 := by decide

/-- The table of field descriptors, on vector G89 (R116). -/
theorem test_table_entry_97 : regDecByTable ⟨0x97#8, 0xC0#8⟩ false = ⟨.decoded, 0x40, 3, 0, 0, 0, 0⟩ := by decide

/-! ## Witnesses: values that meet the hypotheses of each obligation that has any -/

/-- A state that shows the length of vector S1. -/
def shown : State :=
  { inp := ⟨0x93FF9412#32, true, false, false, 0, 0, 0⟩
    out := { res := ResultPorts.ofPair ⟨0x93#8, 0xFF#8⟩ ⟨.decoded, 0xFF, 0, 0, 0, 0, 0⟩ ⟨0x94#8, 0x12#8⟩
               ⟨.decoded, 0x12, 0, 0, 0, 0, 0⟩ (some ⟨0x12FF, 0x25FE⟩)
             acAddress := 0 }
    caller := [] }

/-- A state whose caller has three vectors to present: vectors G9, S1 and M17. -/
def busy : State :=
  { shown with
    caller := [⟨0x8174#32, false, false, false, 0, 0, 0⟩, ⟨0x93FF9412#32, true, false, false, 0x34, 0x12, 0x7F⟩,
      ⟨0x40000080#32, true, true, true, 0, 0, 0⟩] }

theorem test_witness_UnlistedIndexIsUnrecognized :
    ((0x7F#8 : Byte).toNat < 0x80 ∨ 0x97 < (0x7F#8 : Byte).toNat) ∧
    ((0x98#8 : Byte).toNat < 0x80 ∨ 0x97 < (0x98#8 : Byte).toNat) := by decide

theorem test_witness_PairShowsBothWrites :
    (0x80000000 ≤ (0x80000000#32).toNat ∧ (0x80000000#32).toNat ≤ 0x9FFFFFFF) ∧
    (0x80000000 ≤ (0x9FFFFFFF#32).toNat ∧ (0x9FFFFFFF#32).toNat ≤ 0x9FFFFFFF) ∧
    correlate ⟨0x93#8, 0xFF#8⟩ ⟨0x94#8, 0x12#8⟩ = some ⟨0x12FF, 0x25FE⟩ ∧
    correlate ⟨0x94#8, 0x12#8⟩ ⟨0x93#8, 0xFF#8⟩ = some ⟨0x12FF, 0x25FE⟩ := by decide

theorem test_witness_ByteCountTwiceLengthElseZero :
    (¬((0x93#8 : Byte) = 0x93#8 ∧ (0x93#8 : Byte) = 0x94#8) ∧ ¬((0x93#8 : Byte) = 0x94#8 ∧ (0x93#8 : Byte) = 0x93#8)) ∧
    (¬((0x94#8 : Byte) = 0x93#8 ∧ (0x95#8 : Byte) = 0x94#8) ∧ ¬((0x94#8 : Byte) = 0x94#8 ∧ (0x95#8 : Byte) = 0x93#8)) := by
  decide

theorem test_witness_NoLengthOutsideAPair :
    (∃ t, exec (.reg93 0xFF#8) shown = .next t) ∧ ¬(Instr.reg93 0xFF#8).IsCompose ∧
    (∀ i0 v0 i1 v1, Instr.reg93 0xFF#8 ≠ .pair i0 v0 i1 v1) ∧
    (∃ t t', exec (.pair 0x93#8 0xFF#8 0x94#8 0x12#8) shown = .next t ∧
      exec (.pair 0x93#8 0xFF#8 0x94#8 0x12#8) State.reset = .next t') :=
  ⟨⟨_, rfl⟩, nofun, nofun, ⟨_, _, rfl, rfl⟩⟩

/-- One word for each of the eight clauses, the smallest or the largest that falls under it. -/
theorem test_witness_NamedTypeCodesShowTheirPorts :
    (bitsOf (0x00000000#32) 30 2 = 0 ∧ bitsOf (0x00000000#32) 4 2 = 0) ∧
    (bitsOf (0x7FFFFFCF#32) 30 2 = 1 ∧ bitsOf (0x7FFFFFCF#32) 4 2 = 0) ∧
    (bitsOf (0xC0000000#32) 30 2 = 3 ∧ bitsOf (0xC0000000#32) 4 2 = 0) ∧
    (bitsOf (0x3FFFFFDF#32) 30 2 = 0 ∧ bitsOf (0x3FFFFFDF#32) 4 2 = 1) ∧
    (bitsOf (0x40000010#32) 30 2 = 1 ∧ bitsOf (0x40000010#32) 4 2 = 1) ∧
    (bitsOf (0x3FFFFFEF#32) 30 2 = 0 ∧ bitsOf (0x3FFFFFEF#32) 4 2 = 2) ∧
    (bitsOf (0x00000030#32) 30 2 = 0 ∧ bitsOf (0x00000030#32) 4 2 = 3) ∧
    (bitsOf (0x7FFFFFFF#32) 30 2 = 1 ∧ bitsOf (0x7FFFFFFF#32) 4 2 = 3) := by decide

/-- One word for each of the eight clauses, at the end next to the pair words where there is one. -/
theorem test_witness_UnnamedTypeCodesShowUnknown :
    (bitsOf (0xA0000000#32) 29 3 ≠ 4 ∧ bitsOf (0xA0000000#32) 30 2 = 2 ∧ bitsOf (0xA0000000#32) 4 2 = 0) ∧
    (bitsOf (0xA0000010#32) 29 3 ≠ 4 ∧ bitsOf (0xA0000010#32) 30 2 = 2 ∧ bitsOf (0xA0000010#32) 4 2 = 1) ∧
    (bitsOf (0xC0000010#32) 29 3 ≠ 4 ∧ bitsOf (0xC0000010#32) 30 2 = 3 ∧ bitsOf (0xC0000010#32) 4 2 = 1) ∧
    (bitsOf (0x7FFFFFEF#32) 29 3 ≠ 4 ∧ bitsOf (0x7FFFFFEF#32) 30 2 = 1 ∧ bitsOf (0x7FFFFFEF#32) 4 2 = 2) ∧
    (bitsOf (0xBFFFFFEF#32) 29 3 ≠ 4 ∧ bitsOf (0xBFFFFFEF#32) 30 2 = 2 ∧ bitsOf (0xBFFFFFEF#32) 4 2 = 2) ∧
    (bitsOf (0xC0000020#32) 29 3 ≠ 4 ∧ bitsOf (0xC0000020#32) 30 2 = 3 ∧ bitsOf (0xC0000020#32) 4 2 = 2) ∧
    (bitsOf (0xA0000030#32) 29 3 ≠ 4 ∧ bitsOf (0xA0000030#32) 30 2 = 2 ∧ bitsOf (0xA0000030#32) 4 2 = 3) ∧
    (bitsOf (0xFFFFFFFF#32) 29 3 ≠ 4 ∧ bitsOf (0xFFFFFFFF#32) 30 2 = 3 ∧ bitsOf (0xFFFFFFFF#32) 4 2 = 3) := by decide

theorem test_witness_UnnamedTypeCodesShowUnknown_bit29 :
    decode (.w32 0xA0000000#32) = .madUnk2 ⟨0x2000#14, 0#2, false, false⟩ ∧
    decode (.w32 0xA0000010#32) = .madUnk6 ⟨0x2000#14, 0#2, false, false⟩ ∧
    decode (.w32 0xA0000020#32) = .madUnkA ⟨0x2000#14, 0#2, false, false⟩ ∧
    decode (.w32 0xBFFF00F3#32) = .madUnkE ⟨0x3FFF#14, 3#2, true, true⟩ := by decide

theorem test_witness_MadWordFieldsComeFromTheirBits :
    bitsOf (0x7FFFFFFF#32) 29 3 ≠ 4 ∧ bitsOf (0xA0000000#32) 29 3 ≠ 4 ∧ bitsOf (0#32) 29 3 ≠ 4 := by decide

theorem test_witness_EveryDescriptorIsReachable :
    (bitsOf (0b0010#4) 0 2 = 2 → bitsOf (0x2000#16) 13 1 = 1) ∧ bitsOf (0b0010#4) 0 2 = 2 ∧
    (bitsOf (0b1101#4) 0 2 = 2 → bitsOf (0#16) 13 1 = 1) := by decide

theorem test_witness_ComposeReadingsAgreeBelow40 :
    (0x3F#8 : Byte).toNat < 0x40 ∧ ¬(0x40#8 : Byte).toNat < 0x40 := by decide

theorem test_witness_ComposerAndDecoderAreIndependent :
    (∃ t t', exec (.compose 0x34#8 0x12#8 0x7F#8) shown = .next t ∧
      exec (.compose 0x34#8 0x12#8 0x7F#8) (withModes true true) = .next t') ∧
    ¬(Instr.reg82 0x78#8).IsCompose ∧ shown.inp.extendedVram = State.reset.inp.extendedVram ∧
    shown.inp.mode320 = State.reset.inp.mode320 ∧
    (∃ t t', exec (.reg82 0x78#8) shown = .next t ∧ exec (.reg82 0x78#8) State.reset = .next t') :=
  ⟨⟨_, _, rfl, rfl⟩, nofun, rfl, rfl, ⟨_, _, rfl, rfl⟩⟩

theorem test_witness_EveryInstructionKeepsTheOutputInvariant :
    OutputsInv shown.out ∧ ∃ t, exec (.madUnkF ⟨0x3FFF#14, 3#2, true, true⟩) shown = .next t := by
  refine ⟨⟨by decide, by decide, by decide, by decide, fun _ => ⟨rfl, .inl ⟨rfl, rfl, rfl⟩, rfl⟩, rfl, by decide, by decide,
    rfl⟩, _, rfl⟩

theorem test_witness_EveryStepEstablishesTheOutputInvariant : ∃ t, step busy = .next t := ⟨_, rfl⟩

theorem test_witness_StepRunsTheFetchedInstructions :
    (if busy.nextInputs.width32 then decode (.w32 busy.nextInputs.word)
      else decode (.w16 (busy.nextInputs.word.extractLsb' 0 16))) = .reg81 0x74#8 ∧
    (if shown.nextInputs.width32 then decode (.w32 shown.nextInputs.word)
      else decode (.w16 (shown.nextInputs.word.extractLsb' 0 16))) = .pair 0x93#8 0xFF#8 0x94#8 0x12#8 := by decide

theorem test_witness_ProgramShowsEachVectorsOwnResult :
    busy.caller[0]? = some ⟨0x8174#32, false, false, false, 0, 0, 0⟩ ∧
    busy.caller[2]? = some ⟨0x40000080#32, true, true, true, 0, 0, 0⟩ := by decide

/-- Two states with one next vector, one presented and one standing, and different outputs. -/
theorem test_witness_OutputsDependOnTheVectorAlone :
    (State.reset.withFetchWord 16 0x8174).nextInputs = (State.mk ⟨0x8174#32, false, false, false, 0, 0, 0⟩ shown.out []).nextInputs ∧
    (∃ t t', step (State.reset.withFetchWord 16 0x8174) = .next t ∧
      step (State.mk ⟨0x8174#32, false, false, false, 0, 0, 0⟩ shown.out []) = .next t') :=
  ⟨by decide, _, _, rfl, rfl⟩

theorem test_witness_InstructionsLeaveTheRestUnchanged :
    (∃ t, exec (.compose 0x34#8 0x12#8 0x7F#8) busy = .next t) ∧ (Instr.compose 0x34#8 0x12#8 0x7F#8).IsCompose ∧
    (∃ t, exec (.madCramRead ⟨0#14, 0#2, false, false⟩) busy = .next t) ∧
    ¬(Instr.madCramRead ⟨0#14, 0#2, false, false⟩).IsCompose :=
  ⟨⟨_, rfl⟩, ⟨_, _, _, rfl⟩, ⟨_, rfl⟩, nofun⟩

/-- Both sides of each equivalence, at the words on both sides of both ends. -/
theorem test_witness_TagAloneChoosesTheBranch :
    bitsOf (0x7FFFFFFF#32) 29 3 ≠ 4 ∧ bitsOf (0x80000000#32) 29 3 = 4 ∧ bitsOf (0x9FFFFFFF#32) 29 3 = 4 ∧
    bitsOf (0xA0000000#32) 29 3 ≠ 4 := by decide

/-- Clause one: vector G98 and the same word with its upper half zero. -/
theorem test_witness_IgnoredBitsChangeNoOutput_16 :
    let s := State.reset.withFetchWord 16 0xABCD8C81
    let s' := State.reset.withFetchWord 16 0x8C81
    s.nextInputs = { s'.nextInputs with word := s.nextInputs.word } ∧ s.nextInputs.width32 = false ∧
    bitsOf s.nextInputs.word 0 16 = bitsOf s'.nextInputs.word 0 16 ∧ s.nextInputs.word ≠ s'.nextInputs.word ∧
    (∃ t t', step s = .next t ∧ step s' = .next t') :=
  ⟨by decide, by decide, by decide, by decide, _, _, rfl, rfl⟩

/-- Clause two: vectors M30 and M2. -/
theorem test_witness_IgnoredBitsChangeNoOutput_32 :
    let s := State.reset.withFetchWord 32 0x4000FF0C
    let s' := State.reset.withFetchWord 32 0x40000000
    s.nextInputs = { s'.nextInputs with word := s.nextInputs.word } ∧ s.nextInputs.width32 = true ∧
    bitsOf s.nextInputs.word 29 3 ≠ 4 ∧ bitsOf s.nextInputs.word 16 16 = bitsOf s'.nextInputs.word 16 16 ∧
    bitsOf s.nextInputs.word 4 4 = bitsOf s'.nextInputs.word 4 4 ∧
    bitsOf s.nextInputs.word 0 2 = bitsOf s'.nextInputs.word 0 2 ∧ s.nextInputs.word ≠ s'.nextInputs.word ∧
    (∃ t t', step s = .next t ∧ step s' = .next t') :=
  ⟨by decide, by decide, by decide, by decide, by decide, by decide, by decide, _, _, rfl, rfl⟩

theorem test_witness_ExtendedVramMattersOnlyAtIndex82 :
    ((⟨0x81#8, 0xFF#8⟩ : RegisterWrite).index ≠ 0x82#8 ∧ (⟨0x83#8, 0xFF#8⟩ : RegisterWrite).index ≠ 0x82#8) ∧
    (∀ v, Instr.pair 0x81#8 0xFF#8 0x83#8 0xFF#8 ≠ .reg82 v) ∧
    (∀ v i1 v1, Instr.pair 0x81#8 0xFF#8 0x83#8 0xFF#8 ≠ .pair 0x82#8 v i1 v1) ∧
    (∀ i0 v0 v, Instr.pair 0x81#8 0xFF#8 0x83#8 0xFF#8 ≠ .pair i0 v0 0x82#8 v) := by
  refine ⟨by decide, nofun, ?_, ?_⟩
  · intro v i1 v1 h
    exact absurd (congrArg (fun i => match i with | .pair a _ _ _ => a | _ => 0#8) h) (show (0x81#8 : Byte) ≠ 0x82#8 by decide)
  · intro i0 v0 v h
    exact absurd (congrArg (fun i => match i with | .pair _ _ a _ => a | _ => 0#8) h) (show (0x83#8 : Byte) ≠ 0x82#8 by decide)

/-- Each clause of the class rule at its ends, and meanings that are not DECODED. -/
theorem test_witness_ClassDependsOnTheIndexAlone :
    (regDec ⟨0x7F#8, 0#8⟩ false false).cls ≠ .decoded ∧ (regDec ⟨0x98#8, 0#8⟩ false false).cls ≠ .decoded ∧
    (regDec ⟨0x86#8, 0#8⟩ false false).cls ≠ .decoded ∧ (regDec ⟨0x8E#8, 0#8⟩ false false).cls ≠ .decoded ∧
    (regDec ⟨0x88#8, 0#8⟩ false false).cls ≠ .decoded ∧ (regDec ⟨0x89#8, 0#8⟩ false false).cls ≠ .decoded ∧
    (regDec ⟨0x80#8, 0#8⟩ false false).cls = .decoded ∧ (regDec ⟨0x97#8, 0#8⟩ false false).cls = .decoded := by decide

theorem test_witness_DecodeOfEncodeIsTheInstruction :
    (Instr.regUnk 0x98#8 0xFF#8).wf = true ∧ (Instr.pair 0x9F#8 0xFF#8 0xFF#8 0xFF#8).wf = true ∧
    (Instr.madUnk2 ⟨0x2000#14, 3#2, true, true⟩).wf = true ∧ (Instr.compose 0xFF#8 0xFF#8 0xFF#8).wf = true := by decide

/-- Each width, at its largest number. -/
theorem test_witness_PlacedWordIsTheNextInstruction :
    decodeTableWord 16 0xFFFFFFFF = some (.regUnk 0xFF#8 0xFF#8) ∧
    decodeTableWord 24 0xFFFFFF = some (.compose 0xFF#8 0xFF#8 0xFF#8) ∧
    decodeTableWord 32 0xFFFFFFFF = some (.madUnkF ⟨0x3FFF#14, 3#2, true, true⟩) := by decide

/-- The other clause: each width at its smallest number that is no word, and a width that no row has. -/
theorem test_witness_PlacedWordIsTheNextInstruction_none :
    decodeTableWord 16 0x100000000 = none ∧ decodeTableWord 24 0x1000000 = none ∧
    decodeTableWord 32 0x100000000 = none ∧ decodeTableWord 8 0 = none := by decide

end Sys2Proof.Tests
end

section
/-!
PROOFS. What an instruction of the decoder and a step drive, as functions of the input ports alone, and the
obligations of the family 40_decode_entry.md.
-/

namespace Sys2Proof.Machine

/-- No case of `exec` faults or is refused, well-formed instruction or not (R170). -/
theorem exec_completes (i : Instr) (s : State) : ∃ t, exec i s = .next t := by
  obtain ⟨_, _, _, _, h⟩ | ⟨_, _, _, _, _, _, h⟩ | ⟨_, _, _, _, _, h⟩ | ⟨_, _, _, _, h⟩ := exec_cases i s
  · exact ⟨_, h⟩
  · exact ⟨_, h⟩
  · exact ⟨_, h⟩
  · exact ⟨_, h.trans rfl⟩

/-- An instruction of DECODE drives a result that the input ports determine: only REG82 and PAIR read a port at all. -/
theorem exec_drivesResult_of_inputs (i : Instr) (hi : ¬i.IsCompose) :
    ∃ r : Inputs → ResultPorts, ∀ s, exec i s = .next (s.driveResult (r s.inp)) := by
  cases i with
  | compose low mid high => exact absurd ⟨low, mid, high, rfl⟩ hi
  | reg82 v => exact ⟨fun x => .ofSingle ⟨0x82#8, v⟩ (meaning82 v x.extendedVram), fun s => exec_reg82 s v⟩
  | pair i0 v0 i1 v1 =>
    exact ⟨fun x => pairPorts ⟨i0, v0⟩ ⟨i1, v1⟩ x.extendedVram x.mode320, fun s => exec_pair s i0 v0 i1 v1⟩
  | _ => exact ⟨fun _ => _, fun _ => rfl⟩

theorem decode16_not_isCompose (h : Half) : ¬(decode16 h).IsCompose := by
  unfold decode16
  split <;> exact nofun

theorem decodeMad_not_isCompose (w : Word) : ¬(decodeMad w).IsCompose := by
  unfold decodeMad
  split <;> exact nofun

theorem decode32_not_isCompose (w : Word) : ¬(decode32 w).IsCompose := by
  unfold decode32
  split
  · exact nofun
  · exact decodeMad_not_isCompose w

/-- The word on the ports is an instruction of DECODE, at either width (R78). -/
theorem fetchInstr_not_isCompose (x : Inputs) : ¬(fetchInstr x).IsCompose := by
  unfold fetchInstr Inputs.commandWord
  split
  · exact decode32_not_isCompose x.word
  · exact decode16_not_isCompose _

/-- The outputs after a step are determined by the vector it evaluates (R79). -/
theorem exists_outputs_forall_step_eq (x : Inputs) :
    ∃ o : Outputs, ∀ s : State, s.nextInputs = x → step s = .next ⟨x, o, s.caller.tail⟩ := by
  obtain ⟨r, hr⟩ := exec_drivesResult_of_inputs (fetchInstr x) (fetchInstr_not_isCompose x)
  refine ⟨⟨r x, composeAddress x.acLow x.acMid x.acHigh⟩, ?_⟩
  rintro s rfl
  rw [step, State.present_inp, hr, andThen_next, fetchCompose_eq, exec_compose]
  rfl

theorem step_completes (s : State) : ∃ t, step s = .next t :=
  have ⟨_, h⟩ := exists_outputs_forall_step_eq s.nextInputs
  ⟨_, h s rfl⟩

/-- A run whose first step answers `t` goes on from `t`. -/
theorem run_succ_of_step {s t : State} (k : Nat) (h : step s = .next t) :
    Host.Core.run core (k + 1) s = Host.Core.run core k t := by
  simp only [Host.Core.run, core, h]

theorem safeFor (k : Nat) (s : State) : SafeFor k s := by
  induction k generalizing s with
  | zero => exact ⟨s, rfl⟩
  | succ k ih =>
    obtain ⟨t, hstep⟩ := step_completes s
    obtain ⟨u, hrun⟩ := ih t
    exact ⟨u, (run_succ_of_step k hstep).trans hrun⟩

/-- Settles O41: `exec` answers in each of its cases, so a step does, and a run by induction on its length. -/
theorem everyEvaluationCompletes : Obligations.EveryEvaluationCompletes := by
  refine ⟨fun i s => ?_, step_completes, safeFor⟩
  obtain ⟨t, ht⟩ := exec_completes i s
  exact ⟨t, ht, trivial⟩

/-- Settles O42: both steps drive the outputs that their one vector determines. -/
theorem outputsDependOnTheVectorAlone : Obligations.OutputsDependOnTheVectorAlone := by
  intro s s' t t' hv ht ht'
  obtain ⟨o, ho⟩ := exists_outputs_forall_step_eq s'.nextInputs
  obtain rfl := Host.Outcome.next.inj ((ho s hv).symm.trans ht)
  obtain rfl := Host.Outcome.next.inj ((ho s' rfl).symm.trans ht')
  rfl

end Sys2Proof.Machine
end

section
/-!
PROOFS. What the fields of a register value hold as numbers, the 16-bit word of an index that has no row of its own,
and the obligations of the family 41_register_write_decoder.md.
-/

namespace Sys2Proof.Machine

/-! ## Slots and meanings -/

/-- A field that is not shifted stands in its slot as it is. -/
theorem slot_unshifted_toNat (v : Byte) (lo w : Nat) (h : w ≤ 17) : (slot v lo w 0).toNat = bitsOf v lo w := by
  simpa using slot_toNat v lo w 0 h

/-- The field of all eight bits is the value. -/
theorem bitsOf_byte (v : Byte) : bitsOf v 0 8 = v.toNat := by
  have := v.isLt
  unfold bitsOf
  omega

/-- A meaning of one field, shifted: the base-address registers. -/
theorem decoded_slot_holds (v : Byte) {lo w shift : Nat} (h : w + shift ≤ 17) :
    (decoded (slot v lo w shift)).Holds .decoded (bitsOf v lo w * 2 ^ shift) 0 0 0 0 0 :=
  ⟨rfl, slot_toNat v lo w shift h, rfl, rfl, rfl, rfl, rfl⟩

/-- A meaning of one field, the whole value. -/
theorem decoded_byte_holds (v : Byte) : (decoded (slot v 0 8 0)).Holds .decoded v.toNat 0 0 0 0 0 :=
  ⟨rfl, (slot_unshifted_toNat v 0 8 (by decide)).trans (bitsOf_byte v), rfl, rfl, rfl, rfl, rfl⟩

/-- A meaning without fields holds zero in all six slots. -/
theorem empty_holds (c : RegClass) : (RegisterMeaning.empty c).Holds c 0 0 0 0 0 0 :=
  ⟨rfl, rfl, rfl, rfl, rfl, rfl, rfl⟩

/-- An RW16 instruction completes and shows its write with the numbers that its meaning holds (R72). -/
theorem completes_showsSingle {i : Instr} {s : State} {index v : Byte} {rm : RegisterMeaning} {c : RegClass}
    {a0 a1 a2 a3 a4 a5 : Nat} (hi : exec i s = driveSingle index v rm s) (hm : rm.Holds c a0 a1 a2 a3 a4 a5) :
    Completes i s (ShowsSingle index v c a0 a1 a2 a3 a4 a5) :=
  ⟨_, hi, rfl, rfl, hm⟩

/-! ## Words of an unlisted index -/

theorem rw16Word_toNat (index value : Byte) : (rw16Word index value).toNat = index.toNat * 256 + value.toNat :=
  shiftLeft_or_toNat index value (by decide)

theorem rw16Word_index (index value : Byte) : (rw16Word index value).extractLsb' 8 8 = index := by
  have := index.isLt
  have := value.isLt
  apply BitVec.eq_of_toNat_eq
  rw [← extract, extract_toNat, bitsOf, rw16Word_toNat]
  omega

theorem rw16Word_value (index value : Byte) : (rw16Word index value).extractLsb' 0 8 = value := by
  have := value.isLt
  apply BitVec.eq_of_toNat_eq
  rw [← extract, extract_toNat, bitsOf, rw16Word_toNat]
  omega

/-- The encoder's OR is the sum that R48 writes. -/
theorem ofNat_eq_rw16Word (index value : Byte) :
    BitVec.ofNat 16 (index.toNat * 256 + value.toNat) = rw16Word index value := by
  rw [← rw16Word_toNat, BitVec.ofNat_toNat, BitVec.setWidth_eq]

/-- A 16-bit word whose index has no row of its own takes the default row (R54). -/
theorem decode16_of_not_isListedIndex (h : Half) (hi : isListedIndex (h.extractLsb' 8 8) = false) :
    decode16 h = .regUnk (h.extractLsb' 8 8) (h.extractLsb' 0 8) := by
  unfold decode16
  split
  case h_25 => rfl
  all_goals next heq => exact absurd hi (by rw [heq]; decide)

theorem isListedIndex_eq_false {index : Byte} (h : index.toNat < 0x80 ∨ 0x97 < index.toNat) :
    isListedIndex index = false := by
  rw [isListedIndex, Bool.and_eq_false_iff, decide_eq_false_iff_not, decide_eq_false_iff_not]
  omega

/-- Settles O19: the word's index selects the default row, and the meaning of REGUNK has no fields. -/
theorem unlistedIndexIsUnrecognized : Obligations.UnlistedIndexIsUnrecognized := by
  refine ⟨fun index value h => ?_, fun index v s => completes_showsSingle (exec_regUnk s v index) (empty_holds _)⟩
  have hdec := decode16_of_not_isListedIndex (rw16Word index value)
  rw [rw16Word_index, rw16Word_value] at hdec
  rw [ofNat_eq_rw16Word]
  exact hdec (isListedIndex_eq_false h)

/-! ## The mode inputs -/

/-- REGDEC does not read `in.mode_320` (R83). -/
theorem regDec_mode320 (rw : RegisterWrite) (xv m m' : Bool) : regDec rw xv m = regDec rw xv m' := rfl

theorem pairPorts_mode320 (rwA rwB : RegisterWrite) (xv m m' : Bool) :
    pairPorts rwA rwB xv m = pairPorts rwA rwB xv m' := by
  simp only [pairPorts, regDec_mode320 _ xv m m']

/-- Of the input ports, an instruction of DECODE reads `in.extended_vram` at most (R83, R86). -/
theorem exec_drivesResult_of_extendedVram (i : Instr) (hi : ¬i.IsCompose) :
    ∃ r : Bool → ResultPorts, ∀ s, exec i s = .next (s.driveResult (r s.inp.extendedVram)) := by
  cases i with
  | compose low mid high => exact absurd ⟨low, mid, high, rfl⟩ hi
  | reg82 v => exact ⟨fun xv => .ofSingle ⟨0x82#8, v⟩ (meaning82 v xv), fun s => exec_reg82 s v⟩
  | pair i0 v0 i1 v1 =>
    refine ⟨fun xv => pairPorts ⟨i0, v0⟩ ⟨i1, v1⟩ xv false, fun s => ?_⟩
    rw [exec_pair, pairPorts_mode320 _ _ _ _ false]
  | _ => exact ⟨fun _ => _, fun _ => rfl⟩

/-- Settles O47: COMPOSE reads no port of DECODE, and every other instruction `in.extended_vram` at most. -/
theorem mode320HasNoEffect : Obligations.Mode320HasNoEffect := by
  refine ⟨fun write xv => regDec_mode320 write xv false true, fun i s b => ?_⟩
  by_cases hi : i.IsCompose
  · obtain ⟨low, mid, high, rfl⟩ := hi
    exact ⟨_, _, exec_compose s low mid high, exec_compose _ low mid high, rfl⟩
  · obtain ⟨r, hr⟩ := exec_drivesResult_of_extendedVram i hi
    exact ⟨_, _, hr s, hr _, rfl⟩

/-! ## The listed indices -/

/-- Settles O1: four flags. -/
theorem reg80ShowsFourFlags : Obligations.Reg80ShowsFourFlags := fun v s =>
  completes_showsSingle (exec_reg80 s v)
    ⟨rfl, flag_toNat v 5, flag_toNat v 4, flag_toNat v 1, flag_toNat v 0, rfl, rfl⟩

/-- Settles O2: six flags. -/
theorem reg81ShowsSixFlags : Obligations.Reg81ShowsSixFlags := fun v s =>
  completes_showsSingle (exec_reg81 s v)
    ⟨rfl, flag_toNat v 7, flag_toNat v 6, flag_toNat v 5, flag_toNat v 4, flag_toNat v 3, flag_toNat v 2⟩

/-- Settles O3: the field fits its slot at both of its widths. -/
theorem reg82ShowsPlaneABase : Obligations.Reg82ShowsPlaneABase := by
  intro v s
  have hw : (if s.inp.extendedVram then 4 else 3) + 10 ≤ 17 := by split <;> decide
  exact completes_showsSingle (exec_reg82 s v) (decoded_slot_holds v hw)

/-- Settles O4: a field of 6 bits, shifted by 10, fits its slot. -/
theorem reg83ShowsWindowBase : Obligations.Reg83ShowsWindowBase := fun v s =>
  completes_showsSingle (exec_reg83 s v) (decoded_slot_holds v (by decide))

/-- Settles O5: a field of 4 bits, shifted by 13, takes the slot's whole 17 bits. -/
theorem reg84ShowsPlaneBBase : Obligations.Reg84ShowsPlaneBBase := fun v s =>
  completes_showsSingle (exec_reg84 s v) (decoded_slot_holds v (by decide))

/-- Settles O6: a field of 7 bits, shifted by 9, fits its slot. -/
theorem reg85ShowsSpriteBase : Obligations.Reg85ShowsSpriteBase := fun v s =>
  completes_showsSingle (exec_reg85 s v) (decoded_slot_holds v (by decide))

/-- Settles O7: a field of 6 bits, shifted by 10, fits its slot. -/
theorem reg8DShowsHScrollBase : Obligations.Reg8DShowsHScrollBase := fun v s =>
  completes_showsSingle (exec_reg8D s v) (decoded_slot_holds v (by decide))

/-- Settles O9: two fields of the value. -/
theorem reg87ShowsColorAndPalette : Obligations.Reg87ShowsColorAndPalette := fun v s =>
  completes_showsSingle (exec_reg87 s v)
    ⟨rfl, slot_unshifted_toNat v 0 4 (by decide), slot_unshifted_toNat v 4 2 (by decide), rfl, rfl, rfl, rfl⟩

/-- Settles O11: both meanings are the whole value. -/
theorem reg8AAnd8FShowTheirByte : Obligations.Reg8AAnd8FShowTheirByte := fun v s =>
  ⟨completes_showsSingle (exec_reg8A s v) (decoded_byte_holds v),
    completes_showsSingle (exec_reg8F s v) (decoded_byte_holds v)⟩

/-- Bit 1 is the upper bit of the field of bits 1 and 0 (R95). -/
theorem bitsOf_bit1_eq_one_iff (v : Byte) : bitsOf v 1 1 = 1 ↔ bitsOf v 0 2 = 2 ∨ bitsOf v 0 2 = 3 := by
  unfold bitsOf
  omega

/-- Settles O14: two flags and a field, the second flag being the field's upper bit. -/
theorem reg8BSharesBitOne : Obligations.Reg8BSharesBitOne := by
  intro v s
  have hmode := flag_toNat v 1
  have hscroll := slot_unshifted_toNat v 0 2 (by decide)
  refine ⟨_, exec_reg8B s v, ⟨rfl, rfl, rfl, flag_toNat v 2, hmode, hscroll, rfl, rfl, rfl⟩, ?_⟩
  change (flag v 1).toNat = 1 ↔ (slot v 0 2 0).toNat = 2 ∨ (slot v 0 2 0).toNat = 3
  rw [hmode, hscroll]
  exact bitsOf_bit1_eq_one_iff v

/-- The six fields of index 0x8C (R96). -/
theorem meaning8C_holds (v : Byte) : (meaning8C v).Holds .decoded
    (bitsOf v 0 1) (bitsOf v 1 2) (bitsOf v 3 1) (bitsOf v 4 1) (bitsOf v 5 1) (bitsOf v 6 1) :=
  ⟨rfl, flag_toNat v 0, slot_unshifted_toNat v 1 2 (by decide), flag_toNat v 3, flag_toNat v 4, flag_toNat v 5,
    flag_toNat v 6⟩

/-- Settles O15: the six fields of the meaning. -/
theorem reg8CShowsSixFields : Obligations.Reg8CShowsSixFields := fun v s =>
  completes_showsSingle (exec_reg8C s v) (meaning8C_holds v)

/-- Settles O16: two fields of two bits, with no case for the value 2. -/
theorem reg90ShowsPlaneSizes : Obligations.Reg90ShowsPlaneSizes := fun v s =>
  completes_showsSingle (exec_reg90 s v)
    ⟨rfl, slot_unshifted_toNat v 4 2 (by decide), slot_unshifted_toNat v 0 2 (by decide), rfl, rfl, rfl, rfl⟩

/-- The two fields of the window positions, index 0x91 and index 0x92 (R101, R102). -/
theorem decoded_edge_position_holds (v : Byte) :
    (decoded (flag v 7) (slot v 0 4 0)).Holds .decoded (bitsOf v 7 1) (bitsOf v 0 4) 0 0 0 0 :=
  ⟨rfl, flag_toNat v 7, slot_unshifted_toNat v 0 4 (by decide), rfl, rfl, rfl, rfl⟩

/-- Settles O17: the two meanings have the same fields. -/
theorem reg91And92ShowEdgeAndPosition : Obligations.Reg91And92ShowEdgeAndPosition := fun v s =>
  ⟨completes_showsSingle (exec_reg91 s v) (decoded_edge_position_holds v),
    completes_showsSingle (exec_reg92 s v) (decoded_edge_position_holds v)⟩

/-- The two fields of index 0x97; they overlap at bit 6 (R107). -/
theorem meaning97_holds (v : Byte) : (meaning97 v).Holds .decoded (bitsOf v 0 7) (bitsOf v 6 2) 0 0 0 0 :=
  ⟨rfl, slot_unshifted_toNat v 0 7 (by decide), slot_unshifted_toNat v 6 2 (by decide), rfl, rfl, rfl, rfl⟩

/-- Settles O18: the two overlapping fields of the meaning. -/
theorem reg97SharesBitSix : Obligations.Reg97SharesBitSix := fun v s =>
  completes_showsSingle (exec_reg97 s v) (meaning97_holds v)

/-- Settles O52: the tables entry by entry; the number in the slot is the meaning's, with no name between. -/
theorem enumerationNamesAreTheSpecs : Obligations.EnumerationNamesAreTheSpecs := by
  refine ⟨rfl, rfl, rfl, rfl, rfl, rfl, rfl, rfl, rfl, rfl, rfl, rfl, rfl, rfl, rfl, rfl, fun v s => ⟨?_, ?_⟩⟩
  · obtain ⟨-, -, hinterlace, -⟩ := meaning8C_holds v
    exact ⟨_, exec_reg8C s v, hinterlace⟩
  · obtain ⟨-, -, htype, -⟩ := meaning97_holds v
    exact ⟨_, exec_reg97 s v, htype⟩

end Sys2Proof.Machine
end

section
/-!
PROOFS. The two branches of a 32-bit word and what the type code, the address and the flags are as numbers, and the
obligations of the family 42_control_word_classifier.md.
-/

namespace Sys2Proof.Machine

/-! ## The tag -/

theorem isPairWord_eq_true_iff (w : Word) : isPairWord w = true ↔ bitsOf w 29 3 = 4 := by
  rw [isPairWord, beq_iff_eq, ← BitVec.toNat_inj, ← extract, extract_toNat]
  rfl

/-- The words with the tag are one range of numbers (R121). -/
theorem tag_iff_range (w : Word) : bitsOf w 29 3 = 4 ↔ 0x80000000 ≤ w.toNat ∧ w.toNat ≤ 0x9FFFFFFF := by
  have := w.isLt
  unfold bitsOf
  omega

/-- The tag has `W[31:30] = 0b10`, so any other pair of bits there is no tag. -/
theorem tag_ne_of_codeBits (w : Word) (h : bitsOf w 30 2 ≠ 2) : bitsOf w 29 3 ≠ 4 := by
  unfold bitsOf at *
  omega

/-- `W[31:30] = 0b10` without the tag leaves `W[29] = 1` (R56). -/
theorem bit29_eq_one (w : Word) (htag : bitsOf w 29 3 ≠ 4) (h : bitsOf w 30 2 = 2) : bitsOf w 29 1 = 1 := by
  unfold bitsOf at *
  omega

/-! ## The two branches -/

theorem decode_w32_of_tag {w : Word} (h : bitsOf w 29 3 = 4) :
    decode (.w32 w) = .pair (extract w 24 8) (extract w 16 8) (extract w 8 8) (extract w 0 8) :=
  if_pos ((isPairWord_eq_true_iff w).mpr h)

theorem decode_w32_of_no_tag {w : Word} (h : bitsOf w 29 3 ≠ 4) : decode (.w32 w) = decodeMad w :=
  if_neg (mt (isPairWord_eq_true_iff w).mp h)

/-- The sixteen MAD rows together: whichever row the type code selects, the result is the word's own descriptor (R138). -/
theorem exec_decodeMad (w : Word) (s : State) :
    exec (decodeMad w) s = .next (s.driveResult (.ofMad (classifyMad w))) := by
  unfold decodeMad classifyMad
  split <;> next h5 h4 h31 h30 => rw [h5, h4, h31, h30]; rfl

/-- A word without the tag drives its descriptor. -/
theorem exec_decode_w32_of_no_tag {w : Word} (h : bitsOf w 29 3 ≠ 4) (s : State) :
    exec (decode (.w32 w)) s = .next (s.driveResult (.ofMad (classifyMad w))) := by
  rw [decode_w32_of_no_tag h, exec_decodeMad]

/-- A word with the tag drives two register writes, which are its halves' bytes (R122). -/
theorem exec_decode_w32_of_tag {w : Word} (h : bitsOf w 29 3 = 4) (s : State) :
    exec (decode (.w32 w)) s = .next (s.driveResult (pairPorts ⟨extract w 24 8, extract w 16 8⟩
      ⟨extract w 8 8, extract w 0 8⟩ s.inp.extendedVram s.inp.mode320)) := by
  rw [decode_w32_of_tag h, exec_pair]

/-- Settles O44: the two branches, each with its kind. -/
theorem tagAloneChoosesTheBranch : Obligations.TagAloneChoosesTheBranch := by
  intro w s
  by_cases h : bitsOf w 29 3 = 4
  · exact ⟨_, exec_decode_w32_of_tag h s, iff_of_true rfl h, iff_of_false nofun (not_not_intro h), tag_iff_range w⟩
  · exact ⟨_, exec_decode_w32_of_no_tag h s, iff_of_false nofun h, iff_of_true rfl h, tag_iff_range w⟩

/-- Settles O20: PAIR drives `pairPorts` of its operands, and a word in the tag's range is the PAIR of its bytes. -/
theorem pairShowsBothWrites : Obligations.PairShowsBothWrites := by
  refine ⟨fun i0 v0 i1 v1 s => ⟨_, exec_pair s i0 v0 i1 v1, rfl, rfl, rfl, rfl, rfl, rfl, fun l hl => ?_⟩,
    fun w hlo hhi => ?_⟩
  · simp [pairPorts, hl]
  · have hi0 : 0x80 ≤ bitsOf w 24 8 ∧ bitsOf w 24 8 ≤ 0x9F := by
      unfold bitsOf
      omega
    rw [← extract_toNat] at hi0
    exact ⟨_, _, _, _, decode_w32_of_tag ((tag_iff_range w).mpr ⟨hlo, hhi⟩), extract_toNat w 24 8,
      extract_toNat w 16 8, extract_toNat w 8 8, extract_toNat w 0 8, hi0⟩

/-! ## The descriptor's fields as numbers -/

theorem toNat_getLsbD_eq_bitsOf {n : Nat} (v : BitVec n) (i : Nat) : (v.getLsbD i).toNat = bitsOf v i 1 :=
  Nat.toNat_testBit v.toNat i

theorem getLsbD_eq_true_iff_bitsOf {n : Nat} (v : BitVec n) (i : Nat) : v.getLsbD i = true ↔ bitsOf v i 1 = 1 := by
  rw [← toNat_getLsbD_eq_bitsOf, Bool.toNat_eq_one]

theorem typeCode_toNat (cd3 cd2 cd1 cd0 : Bool) :
    (typeCode cd3 cd2 cd1 cd0).toNat = cd3.toNat * 8 + cd2.toNat * 4 + cd1.toNat * 2 + cd0.toNat := by
  revert cd3 cd2 cd1 cd0
  decide

/-- The type code by single bits (R124). -/
theorem classifyMad_code_toNat (w : Word) : (classifyMad w).code.toNat =
    bitsOf w 5 1 * 8 + bitsOf w 4 1 * 4 + bitsOf w 31 1 * 2 + bitsOf w 30 1 := by
  simp only [classifyMad, typeCode_toNat, toNat_getLsbD_eq_bitsOf]

/-- The type code by its two pairs of bits, `W[5:4]` over `W[31:30]`. -/
theorem classifyMad_code_toNat_of_pairs (w : Word) :
    (classifyMad w).code.toNat = bitsOf w 4 2 * 4 + bitsOf w 30 2 := by
  rw [classifyMad_code_toNat]
  unfold bitsOf
  omega

/-- The address is made of `W[1:0]` and `W[29:16]` (R135). -/
theorem classifyMad_address_toNat (w : Word) :
    (classifyMad w).address.toNat = bitsOf w 0 2 * 2 ^ 14 + bitsOf w 16 14 := by
  rw [← extract_toNat w 0 2, ← extract_toNat w 16 14]
  exact madAddress_toNat _ _

/-- Settles O28: a word without the tag drives `classifyMad` of it, whose fields are cut from the word. -/
theorem madWordFieldsComeFromTheirBits : Obligations.MadWordFieldsComeFromTheirBits := fun w s htag =>
  ⟨_, exec_decode_w32_of_no_tag htag s, rfl, classifyMad_code_toNat w, classifyMad_address_toNat w,
    getLsbD_eq_true_iff_bitsOf w 7, getLsbD_eq_true_iff_bitsOf w 6⟩

/-! ## Type codes and ports -/

/-- A MAD32 instruction completes and shows its code, its port and the word's other fields (R135 to R137, R140). -/
theorem completes_showsMad {i : Instr} {s : State} {code : BitVec 4} {port : Port} {f : MadFields}
    (hi : exec i s = driveMad code port f s) : Completes i s (ShowsMad code.toNat port f) :=
  ⟨_, hi, rfl, rfl, rfl, madAddress_toNat f.aHi f.aLo, rfl, rfl⟩

/-- The port of a word without the tag, by the two pairs of bits that make its type code (R125). -/
theorem shows_port_of_codeBits {w : Word} {s t : State} {a b : Nat} (ht : exec (decode (.w32 w)) s = .next t)
    (htag : bitsOf w 29 3 ≠ 4) (ha : bitsOf w 30 2 = a) (hb : bitsOf w 4 2 = b) :
    t.out.res.kind = .memacc ∧ t.out.res.mad.port = portOf (BitVec.ofNat 4 (b * 4 + a)) := by
  obtain rfl := Host.Outcome.next.inj ((exec_decode_w32_of_no_tag htag s).symm.trans ht)
  have hcode := classifyMad_code_toNat_of_pairs w
  rw [ha, hb] at hcode
  refine ⟨rfl, ?_⟩
  change portOf (classifyMad w).code = _
  rw [← hcode, BitVec.ofNat_toNat, BitVec.setWidth_eq]

/-- Settles O26: each named row drives its port, and a word with `W[31:30]` other than 0b10 has no tag. -/
theorem namedTypeCodesShowTheirPorts : Obligations.NamedTypeCodesShowTheirPorts := by
  refine ⟨fun f s => ⟨completes_showsMad (exec_madVramRead s f), completes_showsMad (exec_madVramWrite s f),
    completes_showsMad (exec_madCramWrite s f), completes_showsMad (exec_madVsramRead s f),
    completes_showsMad (exec_madVsramWrite s f), completes_showsMad (exec_madCramRead s f),
    completes_showsMad (exec_madVramByteRead s f), completes_showsMad (exec_madVramByteReadAlt s f)⟩, fun w s => ?_⟩
  obtain ⟨t, ht⟩ := exec_completes (decode (.w32 w)) s
  have port {a b : Nat} (h2 : a ≠ 2) (ha : bitsOf w 30 2 = a) (hb : bitsOf w 4 2 = b) :=
    shows_port_of_codeBits ht (tag_ne_of_codeBits w (ha ▸ h2)) ha hb
  exact ⟨t, ht, port (by decide), port (by decide), port (by decide), port (by decide), port (by decide),
    port (by decide), port (by decide), port (by decide)⟩

/-- A word that executes as a MAD row with `CD1 CD0 = 10` has `W[29] = 1`: its code is the row's, and with
`W[29] = 0` it would be a PAIR (R56). -/
theorem bit29_of_exec_eq_driveMad {w : Word} {s : State} {code : BitVec 4} {port : Port} {f : MadFields}
    (h : exec (decode (.w32 w)) s = driveMad code port f s) (hcode : code.toNat % 4 = 2) : bitsOf w 29 1 = 1 := by
  by_cases htag : bitsOf w 29 3 = 4
  · have hres := driveMad_eq_next (h.symm.trans (exec_decode_w32_of_tag htag s))
    have hkind : Kind.pair = .memacc := congrArg (fun t => t.out.res.kind) hres
    cases hkind
  · have hres := driveMad_eq_next (h.symm.trans (exec_decode_w32_of_no_tag htag s))
    have hcodes : (classifyMad w).code = code := congrArg (fun t => t.out.res.mad.code) hres
    have hpairs := classifyMad_code_toNat_of_pairs w
    have := bitsOf_lt w 30 2
    rw [hcodes] at hpairs
    exact bit29_eq_one w htag (by omega)

/-- Settles O27: each unnamed row drives UNKNOWN, a word's port is that of its code bits, and four of the rows have
`CD1 CD0 = 10`. -/
theorem unnamedTypeCodesShowUnknown : Obligations.UnnamedTypeCodesShowUnknown := by
  refine ⟨fun f s => ⟨completes_showsMad (exec_madUnk2 s f), completes_showsMad (exec_madUnk6 s f),
    completes_showsMad (exec_madUnk7 s f), completes_showsMad (exec_madUnk9 s f),
    completes_showsMad (exec_madUnkA s f), completes_showsMad (exec_madUnkB s f),
    completes_showsMad (exec_madUnkE s f), completes_showsMad (exec_madUnkF s f)⟩, fun w s htag => ?_, fun w f h => ?_⟩
  · obtain ⟨t, ht⟩ := exec_completes (decode (.w32 w)) s
    have port {a b : Nat} := shows_port_of_codeBits (a := a) (b := b) ht htag
    exact ⟨t, ht, port, port, port, port, port, port, port, port⟩
  · have bit29 {i : Instr} {code : BitVec 4} (hw : decode (.w32 w) = i)
        (hi : exec i .reset = driveMad code .unknown f .reset) (hcode : code.toNat % 4 = 2) :=
      bit29_of_exec_eq_driveMad ((congrArg (exec · .reset) hw).trans hi) hcode
    obtain h | h | h | h := h
    · exact bit29 h (exec_madUnk2 _ f) (by decide)
    · exact bit29 h (exec_madUnk6 _ f) (by decide)
    · exact bit29 h (exec_madUnkA _ f) (by decide)
    · exact bit29 h (exec_madUnkE _ f) (by decide)

end Sys2Proof.Machine
end

section
/-!
PROOFS. When the correlator answers and with which length, and the obligations of the family
43_dma_length_correlator.md.
-/

namespace Sys2Proof.Machine

/-- The correlator answers for the two length registers, in either order, and for no other pair of indices (R151). -/
theorem correlate_isSome_iff (rwA rwB : RegisterWrite) : (correlate rwA rwB).isSome = true ↔
    (rwA.index = 0x93#8 ∧ rwB.index = 0x94#8) ∨ (rwA.index = 0x94#8 ∧ rwB.index = 0x93#8) := by
  obtain ⟨hA, hB, h⟩ | ⟨hA, hB, h⟩ | ⟨hAB, hBA, h⟩ := correlate_cases rwA rwB <;> rw [h]
  · exact iff_of_true rfl (.inl ⟨hA, hB⟩)
  · exact iff_of_true rfl (.inr ⟨hA, hB⟩)
  · exact iff_of_false nofun (not_or_intro hAB hBA)

theorem correlate_index93_index94 (v93 v94 : Byte) :
    correlate ⟨0x93#8, v93⟩ ⟨0x94#8, v94⟩ = some (transferLength v93 v94) := rfl

theorem correlate_index94_index93 (v94 v93 : Byte) :
    correlate ⟨0x94#8, v94⟩ ⟨0x93#8, v93⟩ = some (transferLength v93 v94) := rfl

/-- A PAIR for which the correlator answers completes and shows the length of the two bytes (R152). -/
theorem completes_pair_of_correlate {i0 v0 i1 v1 v93 v94 : Byte} (s : State)
    (h : correlate ⟨i0, v0⟩ ⟨i1, v1⟩ = some (transferLength v93 v94)) :
    Completes (.pair i0 v0 i1 v1) s (fun t =>
      t.out.res.dmaLenValid = true ∧ t.out.res.dmaLength.toNat = v94.toNat * 256 + v93.toNat) := by
  refine ⟨_, exec_pair s i0 v0 i1 v1, ?_⟩
  simp [pairPorts, h, transferLength, dmaLength_toNat]

/-- A length is made of its own two bytes. -/
theorem length_toNat_eq_bytes (l : BitVec 16) :
    (extract l 8 8).toNat * 256 + (extract l 0 8).toNat = l.toNat := by
  have := l.isLt
  rw [extract_toNat, extract_toNat]
  unfold bitsOf
  omega

/-- Settles O21: `dma_len_valid` tells whether the correlator answers. -/
theorem lengthExactlyForIndices93And94 : Obligations.LengthExactlyForIndices93And94 := fun i0 v0 i1 v1 s =>
  ⟨_, exec_pair s i0 v0 i1 v1, correlate_isSome_iff ⟨i0, v0⟩ ⟨i1, v1⟩⟩

/-- Settles O22: in both orders the correlator answers with the same length, and a length's own bytes reach it. -/
theorem lengthIsHighByteThenLowByte : Obligations.LengthIsHighByteThenLowByte := by
  refine ⟨fun a b s => ⟨completes_pair_of_correlate s (correlate_index93_index94 a b),
    completes_pair_of_correlate s (correlate_index94_index93 b a)⟩, fun l s => ?_⟩
  obtain ⟨t, ht, -, hlength⟩ :=
    completes_pair_of_correlate s (correlate_index93_index94 (extract l 0 8) (extract l 8 8))
  exact ⟨_, _, t, ht, BitVec.eq_of_toNat_eq (hlength.trans (length_toNat_eq_bytes l))⟩

/-- Settles O24: beside the correlator's answer stand the meanings of 0x93 and 0x94, which are the whole value. -/
theorem lengthIsAddedToBothMeanings : Obligations.LengthIsAddedToBothMeanings := fun a b s =>
  ⟨⟨_, exec_pair s 0x93#8 a 0x94#8 b, rfl, rfl, decoded_byte_holds a, decoded_byte_holds b⟩,
    ⟨_, exec_pair s 0x94#8 b 0x93#8 a, rfl, rfl, decoded_byte_holds b, decoded_byte_holds a⟩⟩

end Sys2Proof.Machine
end

section
/-!
PROOFS. The composer's result determines its three bytes, and the obligations of the family 44_address_composer.md.
-/

namespace Sys2Proof.Machine

/-- The composer loses no bit of its bytes: they are the digits, to base 256, of half its result (R160). -/
theorem composeAddress_inj {low mid high low' mid' high' : Byte} :
    composeAddress low mid high = composeAddress low' mid' high' ↔ low = low' ∧ mid = mid' ∧ high = high' := by
  simp only [← BitVec.toNat_inj, composeAddress_toNat]
  have := low.isLt
  have := mid.isLt
  have := low'.isLt
  have := mid'.isLt
  omega

/-- Settles O34: an exchange keeps the result only if it keeps each of the three bytes. -/
theorem composeOperandOrderMatters : Obligations.ComposeOperandOrderMatters := by
  intro a b c
  refine ⟨composeAddress_inj.trans ?_, composeAddress_inj.trans ?_, composeAddress_inj.trans ?_⟩
  · exact ⟨fun ⟨hlow, _, _⟩ => hlow, fun h => ⟨h, h.symm, rfl⟩⟩
  · exact ⟨fun ⟨_, hmid, _⟩ => hmid, fun h => ⟨rfl, h, h.symm⟩⟩
  · exact ⟨fun ⟨hlow, _, _⟩ => hlow, fun h => ⟨h, rfl, h.symm⟩⟩

/-- Settles O33: COMPOSE drives a value of its bytes alone, and every other instruction a result that the mode inputs
determine, of which it reads `in.extended_vram` at most. -/
theorem composerAndDecoderAreIndependent : Obligations.ComposerAndDecoderAreIndependent := by
  refine ⟨fun low mid high s s' t t' ht ht' => ?_, fun i s s' t t' hi hxv _ ht ht' => ?_⟩
  · obtain rfl := execCompose_eq_next ht
    obtain rfl := execCompose_eq_next ht'
    rfl
  · obtain ⟨r, hr⟩ := exec_drivesResult_of_extendedVram i hi
    obtain rfl := Host.Outcome.next.inj ((hr s).symm.trans ht)
    obtain rfl := Host.Outcome.next.inj ((hr s').symm.trans ht')
    exact congrArg r hxv

end Sys2Proof.Machine
end

section
/-!
PROOFS. Which indices have a row of their own, what REGDEC gives for the others, and that a 16-bit word is the register
write of its two bytes; the remaining obligations about single register writes.
-/

namespace Sys2Proof.Machine

/-! ## Listed indices -/

theorem isListedIndex_eq_true_iff (index : Byte) :
    isListedIndex index = true ↔ 0x80 ≤ index.toNat ∧ index.toNat ≤ 0x97 := by
  rw [isListedIndex, Bool.and_eq_true, decide_eq_true_iff, decide_eq_true_iff]

/-- The listed indices one by one, in the order in which the decoder and REGDEC try them (R54, R82). -/
theorem mem_of_isListedIndex {index : Byte} (h : isListedIndex index = true) :
    index ∈ [0x80#8, 0x81#8, 0x82#8, 0x83#8, 0x84#8, 0x85#8, 0x86#8, 0x87#8, 0x88#8, 0x89#8, 0x8A#8, 0x8B#8, 0x8C#8,
      0x8D#8, 0x8E#8, 0x8F#8, 0x90#8, 0x91#8, 0x92#8, 0x93#8, 0x94#8, 0x95#8, 0x96#8, 0x97#8] := by
  rw [isListedIndex_eq_true_iff] at h
  simp only [List.mem_cons, List.not_mem_nil, or_false, ← BitVec.toNat_inj, BitVec.toNat_ofNat]
  omega

theorem ne_of_isListedIndex_eq_false {index k : Byte} (h : isListedIndex index = false)
    (hk : isListedIndex k = true) : index ≠ k := by
  rintro rfl
  exact Bool.false_ne_true (h.symm.trans hk)

/-- REGDEC's default row (R108). -/
theorem regDec_of_not_isListedIndex (rw : RegisterWrite) (xv m : Bool) (h : isListedIndex rw.index = false) :
    regDec rw xv m = .empty .unrecognized := by
  unfold regDec
  split
  case h_25 => rfl
  all_goals next heq => exact absurd heq (ne_of_isListedIndex_eq_false h rfl)

/-- Every entry of the table is for a listed index, so an unlisted one has none (R82, R116). -/
theorem lutEntry_of_not_isListedIndex {index : Byte} (h : isListedIndex index = false) : lutEntry index = none := by
  have hlisted : ∀ e ∈ registerMap, isListedIndex e.index = true := by decide
  refine List.find?_eq_none.mpr fun e he heq => ?_
  exact ne_of_isListedIndex_eq_false h (hlisted e he) (beq_iff_eq.mp heq).symm

/-- Settles O50: a listed index selects one rule and one entry, which describe the same fields; an unlisted index has
neither. -/
theorem registerRulesAgreeWithTheTable : Obligations.RegisterRulesAgreeWithTheTable := by
  rintro ⟨index, value⟩ xv m
  cases h : isListedIndex index with
  | false => rw [regDec_of_not_isListedIndex _ xv m h, regDecByTable, lutEntry_of_not_isListedIndex h]
  | true =>
    have hmem := mem_of_isListedIndex h
    fin_cases hmem <;> cases xv <;> rfl

/-- The class by the index, as R82 has it. -/
theorem regDec_cls (rw : RegisterWrite) (xv m : Bool) : (regDec rw xv m).cls =
    if rw.index = 0x86#8 ∨ rw.index = 0x8E#8 then .unhandled
    else if rw.index = 0x88#8 ∨ rw.index = 0x89#8 then .unrecognized
    else if 0x80 ≤ rw.index.toNat ∧ rw.index.toNat ≤ 0x97 then .decoded else .unrecognized := by
  obtain ⟨index, value⟩ := rw
  cases h : isListedIndex index with
  | false =>
    have hne (k : Byte) (hk : isListedIndex k = true) : index ≠ k := ne_of_isListedIndex_eq_false h hk
    have hrange := mt (isListedIndex_eq_true_iff index).mpr (Bool.eq_false_iff.mp h)
    rw [regDec_of_not_isListedIndex _ xv m h, if_neg (not_or_intro (hne _ rfl) (hne _ rfl)),
      if_neg (not_or_intro (hne _ rfl) (hne _ rfl)), if_neg hrange]
    rfl
  | true =>
    have hmem := mem_of_isListedIndex h
    fin_cases hmem <;> rfl

/-- Settles O49: the class rule, and that REGDEC gives no fields without the class DECODED. -/
theorem classDependsOnTheIndexAlone : Obligations.ClassDependsOnTheIndexAlone := by
  refine fun rw xv m => ⟨regDec_cls rw xv m, fun hcls => ?_⟩
  rw [regDec_fieldless rw xv m hcls]
  exact empty_holds _

/-! ## Single register writes -/

/-- Settles O8: neither meaning has a field. -/
theorem reg86And8EAreUnhandled : Obligations.Reg86And8EAreUnhandled := fun v s =>
  ⟨completes_showsSingle (exec_reg86 s v) (empty_holds .unhandled),
    completes_showsSingle (exec_reg8E s v) (empty_holds .unhandled)⟩

/-- Settles O10: neither meaning has a field, at either value of the parameter. -/
theorem reg88And89AreUnrecognized : Obligations.Reg88And89AreUnrecognized := by
  refine ⟨fun v s => ⟨completes_showsSingle (exec_reg88 s v) (empty_holds .unrecognized),
    completes_showsSingle (exec_reg89 s v) (empty_holds .unrecognized)⟩, fun c => ?_⟩
  cases c with
  | unrecognized => exact empty_holds .unrecognized
  | unhandled => exact empty_holds .unhandled

/-- Settles O13: both meanings are the whole value. -/
theorem reg95And96ShowTheirByte : Obligations.Reg95And96ShowTheirByte := fun v s =>
  ⟨completes_showsSingle (exec_reg95 s v) (decoded_byte_holds v),
    completes_showsSingle (exec_reg96 s v) (decoded_byte_holds v)⟩

/-- The two bytes of a length are the values it was made of (R152). -/
theorem bitsOf_of_toNat_eq_bytes {l : BitVec 16} {low high : Byte} (h : l.toNat = high.toNat * 256 + low.toNat) :
    bitsOf l 0 8 = low.toNat ∧ bitsOf l 8 8 = high.toNat := by
  have := low.isLt
  have := high.isLt
  unfold bitsOf
  omega

/-- Settles O12: alone each is the whole value and SINGLE's length outputs are zero; paired, the correlator answers. -/
theorem reg93And94ShowTheLengthBytes : Obligations.Reg93And94ShowTheLengthBytes := by
  refine ⟨fun v s => ⟨⟨_, exec_reg93 s v, ⟨rfl, rfl, decoded_byte_holds v⟩, rfl⟩,
    ⟨_, exec_reg94 s v, ⟨rfl, rfl, decoded_byte_holds v⟩, rfl⟩⟩, fun v w s => ⟨?_, ?_⟩⟩
  · obtain ⟨t, ht, hvalid, hlength⟩ := completes_pair_of_correlate s (correlate_index93_index94 v w)
    exact ⟨t, ht, hvalid, bitsOf_of_toNat_eq_bytes hlength⟩
  · obtain ⟨t, ht, hvalid, hlength⟩ := completes_pair_of_correlate s (correlate_index94_index93 w v)
    exact ⟨t, ht, hvalid, bitsOf_of_toNat_eq_bytes hlength⟩

/-! ## The mode input `in.extended_vram` -/

/-- Only the rule of index 0x82 reads `in.extended_vram` (R86). -/
theorem regDec_extendedVram {rw : RegisterWrite} (h : rw.index ≠ 0x82#8) (xv xv' m : Bool) :
    regDec rw xv m = regDec rw xv' m := by
  unfold regDec
  split
  case h_3 heq => exact absurd heq h
  all_goals rfl

/-- Settles O48: without a write to 0x82 the result is the same at both states; with one, the field's fourth bit
shows. -/
theorem extendedVramMattersOnlyAtIndex82 : Obligations.ExtendedVramMattersOnlyAtIndex82 := by
  have hnarrow : (meaning82 0x78#8 false).f0.toNat = 0x1C00 := by decide
  have hwide : (meaning82 0x78#8 true).f0.toNat = 0x3C00 := by decide
  refine ⟨fun rw m h => regDec_extendedVram h false true m, fun i s b hreg hpairA hpairB => ?_,
    fun s => ⟨_, _, exec_reg82 _ _, exec_reg82 _ _, hnarrow, hwide⟩⟩
  cases i with
  | reg82 v => exact absurd rfl (hreg v)
  | pair i0 v0 i1 v1 =>
    have h0 : i0 ≠ 0x82#8 := by rintro rfl; exact hpairA v0 i1 v1 rfl
    have h1 : i1 ≠ 0x82#8 := by rintro rfl; exact hpairB i0 v0 v1 rfl
    refine ⟨_, _, exec_pair s i0 v0 i1 v1, exec_pair _ i0 v0 i1 v1, ?_⟩
    simp [State.driveResult, pairPorts, regDec_extendedVram (rw := ⟨i0, v0⟩) h0 b s.inp.extendedVram,
      regDec_extendedVram (rw := ⟨i1, v1⟩) h1 b s.inp.extendedVram]
  | _ => exact ⟨_, _, rfl, rfl, rfl⟩

/-! ## Words of 16 bits -/

/-- What makes an instruction the write `rw`: its form, its word and its result. -/
structure IsRegisterWrite (i : Instr) (rw : RegisterWrite) : Prop where
  wf : i.wf = true
  encode : encode i = .w16 (rw16Word rw.index rw.value)
  exec : ∀ s, exec i s = .next (s.driveResult (.ofSingle rw (regDec rw s.inp.extendedVram s.inp.mode320)))

/-- A 16-bit word is the write that SPLIT makes of it, in the row of its index or in the default row (R54, R72, R81). -/
theorem decode16_isRegisterWrite (h : Half) : IsRegisterWrite (decode16 h) (split h) := by
  have hsplit : split h = ⟨h.extractLsb' 8 8, h.extractLsb' 0 8⟩ := rfl
  rw [hsplit]
  cases hl : isListedIndex (h.extractLsb' 8 8) with
  | false =>
    rw [decode16_of_not_isListedIndex h hl]
    exact ⟨congrArg not hl, rfl, fun s => by rw [regDec_of_not_isListedIndex _ _ _ hl]; rfl⟩
  | true =>
    have hmem := mem_of_isListedIndex hl
    unfold decode16
    generalize h.extractLsb' 8 8 = index at *
    fin_cases hmem <;> exact ⟨rfl, rfl, fun _ => rfl⟩

end Sys2Proof.Machine
end

section
/-!
PROOFS. A step computes the spec's function of its vector, and what follows from that: the run of a program, the
invariant of the output ports, the wire codes, the bits that are ignored; and what one instruction leaves unchanged.
-/

namespace Sys2Proof.Machine

/-! ## The word's instruction computes DECODE -/

theorem extract_tag_eq_iff (w : Word) : extract w 29 3 = 0b100#3 ↔ bitsOf w 29 3 = 4 := by
  rw [← isPairWord_eq_true_iff, isPairWord, beq_iff_eq, extract]

theorem extract_extract {n : Nat} (v : BitVec n) {lo w lo' w' : Nat} (h : lo' + w' ≤ w) :
    extract (extract v lo w) lo' w' = extract v (lo + lo') w' := by
  apply BitVec.eq_of_getLsbD_eq
  intro i hi
  have : lo' + i < w := by omega
  simp [extract, hi, this, Nat.add_assoc]

/-- CLASSIFY_PAIR gives the word's four bytes, the high half first (R122). -/
theorem classifyPair_eq (w : Word) :
    classifyPair w = (⟨extract w 24 8, extract w 16 8⟩, ⟨extract w 8 8, extract w 0 8⟩) := by
  simp only [classifyPair, split, hiHalf, loHalf, extract_extract w (show 8 + 8 ≤ 16 by decide),
    extract_extract w (show 0 + 8 ≤ 16 by decide)]

theorem word32Path_of_tag {x : Inputs} (h : bitsOf x.word 29 3 = 4) : word32Path x =
    pairPorts (classifyPair x.word).1 (classifyPair x.word).2 x.extendedVram x.mode320 :=
  if_pos ((extract_tag_eq_iff x.word).mpr h)

theorem word32Path_of_no_tag {x : Inputs} (h : bitsOf x.word 29 3 ≠ 4) :
    word32Path x = .ofMad (classifyMad x.word) :=
  if_neg (mt (extract_tag_eq_iff x.word).mp h)

theorem evaluate_of_width16 {x : Inputs} (hw : x.width32 = false) :
    evaluate x = ⟨singlePath x, composeAddress x.acLow x.acMid x.acHigh⟩ := by
  rw [evaluate, hw]
  rfl

theorem evaluate_of_width32 {x : Inputs} (hw : x.width32 = true) :
    evaluate x = ⟨word32Path x, composeAddress x.acLow x.acMid x.acHigh⟩ := by
  rw [evaluate, hw]
  rfl

/-- The three results of an evaluation: SINGLE of the low half, PAIR of both halves, MEMACC of the whole word. -/
theorem evaluate_res_cases (x : Inputs) :
    (x.width32 = false ∧ (evaluate x).res = .ofSingle (split (extract x.word 0 16))
      (regDec (split (extract x.word 0 16)) x.extendedVram x.mode320)) ∨
    (x.width32 = true ∧ bitsOf x.word 29 3 = 4 ∧ (evaluate x).res =
      pairPorts (classifyPair x.word).1 (classifyPair x.word).2 x.extendedVram x.mode320) ∨
    (x.width32 = true ∧ bitsOf x.word 29 3 ≠ 4 ∧ (evaluate x).res = .ofMad (classifyMad x.word)) := by
  cases hw : x.width32 with
  | false =>
    rw [evaluate_of_width16 hw]
    exact .inl ⟨rfl, rfl⟩
  | true =>
    rw [evaluate_of_width32 hw]
    by_cases htag : bitsOf x.word 29 3 = 4
    · exact .inr (.inl ⟨rfl, htag, word32Path_of_tag htag⟩)
    · exact .inr (.inr ⟨rfl, htag, word32Path_of_no_tag htag⟩)

/-- The instruction on the ports drives what the pseudocode computes from the ports' bits (R70, R72, R73). -/
theorem exec_fetchInstr (s : State) :
    exec (fetchInstr s.inp) s = .next (s.driveResult (evaluate s.inp).res) := by
  obtain ⟨hw, hres⟩ | ⟨hw, htag, hres⟩ | ⟨hw, htag, hres⟩ := evaluate_res_cases s.inp <;>
    rw [hres, fetchInstr, Inputs.commandWord, hw]
  · exact (decode16_isRegisterWrite _).exec s
  · rw [classifyPair_eq]
    exact exec_decode_w32_of_tag htag s
  · exact exec_decode_w32_of_no_tag htag s

/-- Settles O39: the word's instruction drives DECODE's outputs, and COMPOSE the address beside them. -/
theorem stepComputesTheBlocksFunction : Obligations.StepComputesTheBlocksFunction := by
  intro s
  rw [step, exec_fetchInstr, andThen_next, fetchCompose_eq, exec_compose]
  rfl

theorem step_eq_evaluate (s : State) :
    step s = .next ⟨s.nextInputs, evaluate s.nextInputs, s.caller.tail⟩ := stepComputesTheBlocksFunction s

theorem out_of_step {s t : State} (h : step s = .next t) : t.out = evaluate s.nextInputs := by
  obtain rfl := Host.Outcome.next.inj ((step_eq_evaluate s).symm.trans h)
  rfl

/-! ## Programs -/

/-- The first step of a program shows its first vector's result and leaves the rest of the program. -/
theorem step_withProgram_cons (s : State) (v : Inputs) (vs : List Inputs) :
    step (s.withProgram (v :: vs)) = .next ((State.mk v (evaluate v) []).withProgram vs) :=
  step_eq_evaluate (s.withProgram (v :: vs))

/-- Settles O40, by induction on the position: each step but the last only shortens the program. -/
theorem programShowsEachVectorsOwnResult : Obligations.ProgramShowsEachVectorsOwnResult := by
  intro s vs k v hv
  induction k generalizing s vs with
  | zero =>
    cases vs with
    | nil => cases hv
    | cons v' vs =>
      obtain rfl : v' = v := Option.some.inj hv
      exact run_succ_of_step 0 (step_withProgram_cons s v' vs)
  | succ k ih =>
    cases vs with
    | nil => cases hv
    | cons v' vs =>
      rw [run_succ_of_step (k + 1) (step_withProgram_cons s v' vs)]
      exact ih _ vs hv

/-- Settles O38: both instructions complete, and `step` runs them one after the other. -/
theorem stepRunsTheFetchedInstructions : Obligations.StepRunsTheFetchedInstructions := by
  intro s i hi
  obtain ⟨t, ht⟩ := exec_completes i s.present
  have hfetch : fetchInstr s.present.inp = i := by
    rw [← hi, fetchInstr, Inputs.commandWord, apply_ite decode]
    rfl
  refine ⟨t, _, ht, exec_compose t _ _ _, ?_⟩
  rw [step_eq s i hfetch, ht, andThen_next, fetchCompose_eq, exec_compose]
  rfl

/-! ## The invariant of the output ports -/

theorem composeAddress_even (low mid high : Byte) : (composeAddress low mid high).getLsbD 0 = false := by
  have h := getLsbD_eq_true_iff_bitsOf (composeAddress low mid high) 0
  rw [bitsOf, composeAddress_toNat] at h
  rw [← Bool.not_eq_true, h]
  omega

section

variable {a : BitVec 25} (heven : a.getLsbD 0 = false)
include heven

/-- A SINGLE result meets the invariant if its meaning has no fields without the class DECODED. -/
theorem outputsInv_ofSingle (rw : RegisterWrite) {rm : RegisterMeaning} (hrm : Fieldless rm) :
    OutputsInv ⟨.ofSingle rw rm, a⟩ where
  singleUnused _ := ⟨rfl, rfl, rfl, rfl⟩
  pairUnused := nofun
  memaccUnused := nofun
  noLength _ := ⟨rfl, rfl⟩
  aLength := nofun
  portOfCode := rfl
  fields0 := hrm
  fields1 _ := rfl
  evenAddress := heven

/-- A MEMACC result meets it if its port is the code's. -/
theorem outputsInv_ofMad {m : Mad} (hport : m.port = portOf m.code) : OutputsInv ⟨.ofMad m, a⟩ where
  singleUnused := nofun
  pairUnused := nofun
  memaccUnused _ := ⟨rfl, rfl, rfl, rfl, rfl⟩
  noLength _ := ⟨rfl, rfl⟩
  aLength := nofun
  portOfCode := hport
  fields0 _ := rfl
  fields1 _ := rfl
  evenAddress := heven

/-- A PAIR's result meets it: the correlator's answer is the length of the two writes, and no answer is zeros. -/
theorem outputsInv_pairPorts (rwA rwB : RegisterWrite) (xv m : Bool) : OutputsInv ⟨pairPorts rwA rwB xv m, a⟩ where
  singleUnused := nofun
  pairUnused _ := rfl
  memaccUnused := nofun
  noLength h := by
    have hnone : correlate rwA rwB = none := by simpa [pairPorts] using h
    simp [pairPorts, hnone]
  aLength h := by
    refine ⟨rfl, ?_⟩
    obtain ⟨hA, hB, hc⟩ | ⟨hA, hB, hc⟩ | ⟨-, -, hc⟩ := correlate_cases rwA rwB
    · simp [pairPorts, hc, LengthOf, hA, hB, transferLength, dmaLength_toNat, dmaByteCount_toNat]
    · simp [pairPorts, hc, LengthOf, hA, hB, transferLength, dmaLength_toNat, dmaByteCount_toNat]
    · simp [pairPorts, hc] at h
  portOfCode := rfl
  fields0 := regDec_fieldless rwA xv m
  fields1 := regDec_fieldless rwB xv m
  evenAddress := heven

end

theorem outputsInv_evaluate (x : Inputs) : OutputsInv (evaluate x) := by
  have heven := composeAddress_even x.acLow x.acMid x.acHigh
  have hout : evaluate x = ⟨(evaluate x).res, composeAddress x.acLow x.acMid x.acHigh⟩ := rfl
  rw [hout]
  obtain ⟨-, hres⟩ | ⟨-, -, hres⟩ | ⟨-, -, hres⟩ := evaluate_res_cases x <;> rw [hres]
  · exact outputsInv_ofSingle heven _ (regDec_fieldless _ _ _)
  · exact outputsInv_pairPorts heven _ _ _ _
  · exact outputsInv_ofMad heven rfl

/-- Settles O37: a step's outputs are the spec's function of a vector, and that function's values meet the invariant. -/
theorem everyStepEstablishesTheOutputInvariant : Obligations.EveryStepEstablishesTheOutputInvariant := by
  intro s t ht
  rw [out_of_step ht]
  exact outputsInv_evaluate s.nextInputs

/-- Settles O36: COMPOSE replaces the address by an even one, every other instruction the whole decode result. -/
theorem everyInstructionKeepsTheOutputInvariant : Obligations.EveryInstructionKeepsTheOutputInvariant := by
  intro i s t hs ht
  obtain ⟨_, _, _, _, h⟩ | ⟨_, _, _, hrm, _, _, h⟩ | ⟨_, _, _, _, _, h⟩ | ⟨_, _, _, _, h⟩ := exec_cases i s <;>
    obtain rfl := Host.Outcome.next.inj (h.symm.trans ht)
  · exact { hs with evenAddress := composeAddress_even _ _ _ }
  · exact outputsInv_ofSingle hs.evenAddress _ hrm
  · exact outputsInv_pairPorts hs.evenAddress _ _ _ _
  · exact outputsInv_ofMad hs.evenAddress rfl

/-- Settles O35: the outputs of reset are the evaluation of zeros, so they meet the invariant. -/
theorem resetShowsTheEvaluationOfItsInputs : Obligations.ResetShowsTheEvaluationOfItsInputs := by
  have hout : State.reset.out = evaluate State.reset.inp := by decide
  exact ⟨rfl, rfl, hout, hout ▸ outputsInv_evaluate _⟩

/-! ## What one instruction leaves unchanged -/

/-- Settles O43: COMPOSE drives the address alone, every other instruction the decode result alone. -/
theorem instructionsLeaveTheRestUnchanged : Obligations.InstructionsLeaveTheRestUnchanged := by
  intro i s t ht
  by_cases hi : i.IsCompose
  · obtain ⟨low, mid, high, rfl⟩ := hi
    obtain rfl := execCompose_eq_next ht
    exact ⟨rfl, rfl, fun _ => rfl, fun hn => absurd ⟨low, mid, high, rfl⟩ hn⟩
  · obtain ⟨r, hr⟩ := exec_drivesResult_of_inputs i hi
    obtain rfl := Host.Outcome.next.inj ((hr s).symm.trans ht)
    exact ⟨rfl, rfl, fun hc => absurd hc hi, fun _ => rfl⟩

/-! ## Words of 16 bits -/

theorem split_index_toNat (h : Half) : (split h).index.toNat = h.toNat / 256 := by
  have := h.isLt
  rw [split, extract_toNat, bitsOf]
  omega

theorem split_value_toNat (h : Half) : (split h).value.toNat = h.toNat % 256 := by
  rw [split, extract_toNat, bitsOf]
  omega

/-- Settles O45: a 16-bit word is the write that SPLIT makes of it, and SINGLE uses no other output. -/
theorem sixteenBitWordsAreRegisterWrites : Obligations.SixteenBitWordsAreRegisterWrites := fun h s =>
  ⟨_, (decode16_isRegisterWrite h).exec s, rfl, split_index_toNat h, split_value_toNat h, rfl, rfl,
    empty_holds .unrecognized, rfl, rfl, rfl, rfl⟩

/-! ## Ignored bits -/

theorem extract_eq_iff_bitsOf_eq {n : Nat} {v v' : BitVec n} {lo w : Nat} :
    extract v lo w = extract v' lo w ↔ bitsOf v lo w = bitsOf v' lo w := by
  rw [← BitVec.toNat_inj, extract_toNat, extract_toNat]

/-- Words that agree in a field agree in every field inside it. -/
theorem extract_eq_of_bitsOf_eq {n : Nat} {v v' : BitVec n} {lo w : Nat} (h : bitsOf v lo w = bitsOf v' lo w)
    (d : Nat) {w' : Nat} (hd : d + w' ≤ w) : extract v (lo + d) w' = extract v' (lo + d) w' := by
  rw [← extract_extract v hd, ← extract_extract v' hd, extract_eq_iff_bitsOf_eq.mpr h]

theorem getLsbD_eq_of_bitsOf_eq {n : Nat} {v v' : BitVec n} {lo w : Nat} (h : bitsOf v lo w = bitsOf v' lo w)
    (d : Nat) (hd : d + 1 ≤ w) : v.getLsbD (lo + d) = v'.getLsbD (lo + d) := by
  rw [Bool.eq_iff_iff, getLsbD_eq_true_iff_bitsOf, getLsbD_eq_true_iff_bitsOf,
    extract_eq_iff_bitsOf_eq.mp (extract_eq_of_bitsOf_eq h d hd)]

/-- The descriptor is made of `W[31:16]`, `W[7:4]` and `W[1:0]` alone (R57, R138). -/
theorem classifyMad_eq_of_bitsOf_eq {w w' : Word} (hhi : bitsOf w 16 16 = bitsOf w' 16 16)
    (hmid : bitsOf w 4 4 = bitsOf w' 4 4) (hlo : bitsOf w 0 2 = bitsOf w' 0 2) : classifyMad w = classifyMad w' := by
  have hcode : typeCode (w.getLsbD 5) (w.getLsbD 4) (w.getLsbD 31) (w.getLsbD 30) =
      typeCode (w'.getLsbD 5) (w'.getLsbD 4) (w'.getLsbD 31) (w'.getLsbD 30) := by
    rw [getLsbD_eq_of_bitsOf_eq hmid 1 (by decide), getLsbD_eq_of_bitsOf_eq hmid 0 (by decide),
      getLsbD_eq_of_bitsOf_eq hhi 15 (by decide), getLsbD_eq_of_bitsOf_eq hhi 14 (by decide)]
  rw [classifyMad, classifyMad, hcode, extract_eq_iff_bitsOf_eq.mpr hlo, extract_eq_of_bitsOf_eq hhi 0 (by decide),
    getLsbD_eq_of_bitsOf_eq hmid 3 (by decide), getLsbD_eq_of_bitsOf_eq hmid 2 (by decide)]

/-- On the 16-bit path the low half of `in.word` is all that is read (R74). -/
theorem evaluate_eq_of_low_half {x : Inputs} {w : Word} (hw : x.width32 = false)
    (h : bitsOf w 0 16 = bitsOf x.word 0 16) : evaluate { x with word := w } = evaluate x := by
  rw [evaluate_of_width16 hw, evaluate_of_width16 (x := { x with word := w }) hw]
  simp only [singlePath, extract_eq_iff_bitsOf_eq.mpr h]

/-- On the memory-access path the descriptor's bits and the tag, which is in `W[31:16]`, are all that is read. -/
theorem evaluate_eq_of_descriptor_bits {x : Inputs} {w : Word} (htag : bitsOf w 29 3 ≠ 4) (hw : x.width32 = true)
    (hhi : bitsOf w 16 16 = bitsOf x.word 16 16) (hmid : bitsOf w 4 4 = bitsOf x.word 4 4)
    (hlo : bitsOf w 0 2 = bitsOf x.word 0 2) : evaluate { x with word := w } = evaluate x := by
  have htag' : bitsOf x.word 29 3 ≠ 4 := by
    rwa [← extract_eq_iff_bitsOf_eq.mp (extract_eq_of_bitsOf_eq hhi 13 (by decide))]
  rw [evaluate_of_width32 hw, evaluate_of_width32 (x := { x with word := w }) hw, word32Path_of_no_tag htag',
    word32Path_of_no_tag (x := { x with word := w }) htag, classifyMad_eq_of_bitsOf_eq hhi hmid hlo]

/-- Settles O46: neither path reads an ignored bit. -/
theorem ignoredBitsChangeNoOutput : Obligations.IgnoredBitsChangeNoOutput := by
  intro s s' t t' hx hcase ht ht'
  have hwidth : s.nextInputs.width32 = s'.nextInputs.width32 := by rw [hx]
  rw [out_of_step ht, out_of_step ht', hx]
  obtain ⟨hw, hlow⟩ | ⟨hw, htag, hhi, hmid, hlo⟩ := hcase
  · exact evaluate_eq_of_low_half (hwidth.symm.trans hw) hlow
  · exact evaluate_eq_of_descriptor_bits htag (hwidth.symm.trans hw) hhi hmid hlo

/-! ## Wire codes -/

/-- The class's code is the number of R82's table. -/
theorem regDec_cls_code (rw : RegisterWrite) (xv m : Bool) :
    (regDec rw xv m).cls.code.toNat = classNumber rw.index := by
  rw [regDec_cls, classNumber]
  split_ifs <;> rfl

/-- The port's code is the number that R125 and R25 give its type code. -/
theorem portNumbers_getElem (code : BitVec 4) : portNumbers[code.toNat]? = some (portOf code).code.toNat := by
  revert code
  decide

/-- The class codes of an evaluation, the unused write among them: index 0 is UNRECOGNIZED, whose code is 0 (R76). -/
theorem evaluate_cls_code (x : Inputs) :
    (evaluate x).res.rm0.cls.code.toNat = classNumber (evaluate x).res.rw0.index ∧
    (evaluate x).res.rm1.cls.code.toNat = classNumber (evaluate x).res.rw1.index := by
  obtain ⟨-, hres⟩ | ⟨-, -, hres⟩ | ⟨-, -, hres⟩ := evaluate_res_cases x <;> rw [hres]
  · exact ⟨regDec_cls_code _ _ x.mode320, rfl⟩
  · exact ⟨regDec_cls_code _ _ x.mode320, regDec_cls_code _ _ x.mode320⟩
  · exact ⟨rfl, rfl⟩

theorem evaluate_kind_code (x : Inputs) : (evaluate x).res.kind.code.toNat =
    if x.width32 then (if bitsOf x.word 29 3 = 4 then 1 else 2) else 0 := by
  obtain ⟨hw, hres⟩ | ⟨hw, htag, hres⟩ | ⟨hw, htag, hres⟩ := evaluate_res_cases x
  · rw [hres, hw]
    rfl
  · rw [hres, hw, if_pos htag]
    rfl
  · rw [hres, hw, if_neg htag]
    rfl

/-- Settles O60: the codes entry by entry; a step's kind and classes are the evaluation's, its port that of its code. -/
theorem stepDrivesTheSpecsWireCodes : Obligations.StepDrivesTheSpecsWireCodes := by
  refine ⟨⟨rfl, rfl, rfl, rfl, rfl, rfl, rfl, rfl⟩, ⟨rfl, rfl, rfl⟩, ⟨rfl, rfl, rfl⟩, fun s => ?_⟩
  refine ⟨_, step_eq_evaluate s, evaluate_kind_code s.nextInputs, ?_, evaluate_cls_code s.nextInputs⟩
  rw [(outputsInv_evaluate s.nextInputs).portOfCode]
  exact portNumbers_getElem _

end Sys2Proof.Machine
end

section
/-!
PROOFS. The bits of the encoder's words, decode of encode and encode of decode, and the obligations about the encoding,
the opcode table and the placing of words; and that every descriptor has a word.
-/

namespace Sys2Proof.Machine

/-! ## Words of 16 and 24 bits -/

theorem rw16Word_extractLsb' (h : Half) : rw16Word (h.extractLsb' 8 8) (h.extractLsb' 0 8) = h := by
  apply BitVec.eq_of_toNat_eq
  rw [rw16Word_toNat, ← extract, ← extract]
  exact length_toNat_eq_bytes h

theorem encode_decode16 (h : Half) : encode (decode16 h) = .w16 h := by
  rw [(decode16_isRegisterWrite h).encode]
  exact congrArg _ (rw16Word_extractLsb' h)

theorem ac24Word_toNat (low mid high : Byte) :
    (ac24Word low mid high).toNat = high.toNat * 65536 + mid.toNat * 256 + low.toNat := assembled_toNat low mid high

theorem encode_decodeAc24 (b : BitVec 24) : encode (decodeAc24 b) = .ac24 b := by
  have := b.isLt
  refine congrArg _ (BitVec.eq_of_toNat_eq ?_)
  rw [ac24Word_toNat, ← extract, ← extract, ← extract, extract_toNat, extract_toNat, extract_toNat]
  unfold bitsOf
  omega

/-! ## PAIR words -/

section

variable (i0 v0 i1 v1 : Byte)

theorem pairWord_index0 : (pairWord i0 v0 i1 v1).extractLsb' 24 8 = i0 := by
  ext i hi
  interval_cases i <;> simp [pairWord]

theorem pairWord_value0 : (pairWord i0 v0 i1 v1).extractLsb' 16 8 = v0 := by
  ext i hi
  interval_cases i <;> simp [pairWord]

theorem pairWord_index1 : (pairWord i0 v0 i1 v1).extractLsb' 8 8 = i1 := by
  ext i hi
  interval_cases i <;> simp [pairWord]

theorem pairWord_value1 : (pairWord i0 v0 i1 v1).extractLsb' 0 8 = v1 := by
  ext i hi
  interval_cases i <;> simp [pairWord]

end

/-- A word is the number of its four bytes. -/
theorem word_toNat_eq_bytes (w : Word) : w.toNat = (extract w 24 8).toNat * 2 ^ 24 + (extract w 16 8).toNat * 2 ^ 16 +
    (extract w 8 8).toNat * 256 + (extract w 0 8).toNat := by
  have := w.isLt
  rw [extract_toNat, extract_toNat, extract_toNat, extract_toNat]
  unfold bitsOf
  omega

theorem pairWord_toNat (i0 v0 i1 v1 : Byte) : (pairWord i0 v0 i1 v1).toNat =
    i0.toNat * 2 ^ 24 + v0.toNat * 2 ^ 16 + i1.toNat * 256 + v1.toNat := by
  rw [word_toNat_eq_bytes, extract, extract, extract, extract, pairWord_index0, pairWord_value0, pairWord_index1,
    pairWord_value1]

theorem pairWord_extractLsb' (w : Word) :
    pairWord (w.extractLsb' 24 8) (w.extractLsb' 16 8) (w.extractLsb' 8 8) (w.extractLsb' 0 8) = w := by
  apply BitVec.eq_of_toNat_eq
  rw [pairWord_toNat]
  exact (word_toNat_eq_bytes w).symm

/-- The tag is in the first index (R49). -/
theorem isPairWord_eq_hasPairTag (w : Word) : isPairWord w = hasPairTag (w.extractLsb' 24 8) := by
  rw [isPairWord, hasPairTag, ← extract, ← extract, ← extract, extract_extract w (show 5 + 3 ≤ 8 by decide)]

theorem decode_pairWord {i0 : Byte} (v0 i1 v1 : Byte) (h : hasPairTag i0 = true) :
    decode (.w32 (pairWord i0 v0 i1 v1)) = .pair i0 v0 i1 v1 := by
  rw [decode, decode32, isPairWord_eq_hasPairTag, pairWord_index0, if_pos h, pairWord_value0, pairWord_index1,
    pairWord_value1]

/-! ## Memory-access words -/

@[simp] theorem getElem_bitAt (b : Bool) (k i : Nat) (hi : i < 32) : (bitAt b k)[i] = (decide (i = k) && b) := by
  rw [← BitVec.getLsbD_eq_getElem, Laws.getLsbD_bitAt, decide_eq_true hi, Bool.true_and]

section

variable (cd3 cd2 cd1 cd0 : Bool) (f : MadFields)

theorem getLsbD_madWord_31 : (madWord cd3 cd2 cd1 cd0 f).getLsbD 31 = cd1 := by
  simp [madWord]

theorem getLsbD_madWord_30 : (madWord cd3 cd2 cd1 cd0 f).getLsbD 30 = cd0 := by
  simp [madWord]

theorem getLsbD_madWord_5 : (madWord cd3 cd2 cd1 cd0 f).getLsbD 5 = cd3 := by
  simp [madWord]

theorem getLsbD_madWord_4 : (madWord cd3 cd2 cd1 cd0 f).getLsbD 4 = cd2 := by
  simp [madWord]

theorem getLsbD_madWord_7 : (madWord cd3 cd2 cd1 cd0 f).getLsbD 7 = f.dma := by
  simp [madWord]

theorem getLsbD_madWord_6 : (madWord cd3 cd2 cd1 cd0 f).getLsbD 6 = f.copy := by
  simp [madWord]

theorem madWord_aLo : (madWord cd3 cd2 cd1 cd0 f).extractLsb' 16 14 = f.aLo := by
  ext i hi
  interval_cases i <;> simp [madWord]

theorem madWord_aHi : (madWord cd3 cd2 cd1 cd0 f).extractLsb' 0 2 = f.aHi := by
  ext i hi
  interval_cases i <;> simp [madWord]

theorem madFields_madWord : madFields (madWord cd3 cd2 cd1 cd0 f) = f := by
  rw [madFields, madWord_aLo, madWord_aHi, getLsbD_madWord_7, getLsbD_madWord_6]

/-- The ignored bits of an encoded word are zero (R57; decision D29). -/
theorem madWord_ignored : (madWord cd3 cd2 cd1 cd0 f).extractLsb' 8 8 = 0#8 ∧
    (madWord cd3 cd2 cd1 cd0 f).extractLsb' 2 2 = 0#2 := by
  constructor
  all_goals
    ext i hi
    interval_cases i <;> simp [madWord]

end

theorem tag_iff_bits (w : Word) :
    bitsOf w 29 3 = 4 ↔ w.getLsbD 31 = true ∧ ¬w.getLsbD 30 = true ∧ ¬w.getLsbD 29 = true := by
  rw [getLsbD_eq_true_iff_bitsOf, getLsbD_eq_true_iff_bitsOf, getLsbD_eq_true_iff_bitsOf]
  unfold bitsOf
  omega

/-- `W[29]` is address bit 13 (R56). -/
theorem hasBit13_madFields (w : Word) : (madFields w).hasBit13 = w.getLsbD 29 := by
  simp [madFields, MadFields.hasBit13]

/-- A word without the tag has address bit 13 if its `CD1 CD0` is 10 (R56). -/
theorem hasBit13_of_no_tag {w : Word} (htag : bitsOf w 29 3 ≠ 4) (h31 : w.getLsbD 31 = true)
    (h30 : w.getLsbD 30 = false) : (madFields w).hasBit13 = true := by
  rw [hasBit13_madFields]
  by_contra h29
  exact htag ((tag_iff_bits w).mpr ⟨h31, Bool.eq_false_iff.mp h30, h29⟩)

/-- With address bit 13 where `CD1 CD0` is 10, an encoded memory-access word has no tag. -/
theorem madWord_no_tag (cd3 cd2 : Bool) {cd1 cd0 : Bool} {f : MadFields}
    (h : cd1 = true → cd0 = false → f.hasBit13 = true) : bitsOf (madWord cd3 cd2 cd1 cd0 f) 29 3 ≠ 4 := by
  intro htag
  obtain ⟨h31, h30, h29⟩ := (tag_iff_bits _).mp htag
  rw [getLsbD_madWord_31] at h31
  rw [getLsbD_madWord_30, Bool.not_eq_true] at h30
  rw [← hasBit13_madFields, madFields_madWord] at h29
  exact h29 (h h31 h30)

/-! ## Decode of encode -/

/-- Settles O53: a 16-bit word gives its index and value back, a PAIR word its tag and bytes, a memory-access word its
type code and fields, and a bundle its bytes. -/
theorem decodeOfEncodeIsTheInstruction : Obligations.DecodeOfEncodeIsTheInstruction := by
  intro i hwf
  cases i with
  | regUnk index value =>
    have hdec := decode16_of_not_isListedIndex (rw16Word index value)
    rw [rw16Word_index, rw16Word_value] at hdec
    exact hdec (Bool.not_eq_true' _ ▸ hwf)
  | pair i0 v0 i1 v1 => exact decode_pairWord v0 i1 v1 hwf
  | compose low mid high => exact fetchCompose_eq ⟨0, false, false, false, low, mid, high⟩
  | madVramRead f | madVramWrite f | madUnk2 f | madCramWrite f | madVsramRead f | madVsramWrite f | madUnk6 f
  | madUnk7 f | madCramRead f | madUnk9 f | madUnkA f | madUnkB f | madVramByteRead f | madVramByteReadAlt f
  | madUnkE f | madUnkF f =>
    refine (decode_w32_of_no_tag (madWord_no_tag _ _ ?_)).trans ?_
    · simp_all [Instr.wf] -- of the rows with `CD1 CD0` = 10, `wf` asks address bit 13
    · simp only [decodeMad, getLsbD_madWord_31, getLsbD_madWord_30, getLsbD_madWord_5, getLsbD_madWord_4,
        madFields_madWord]
  | _ v => simp only [encode, decode, decode16, rw16Word_index, rw16Word_value]

/-! ## Encode of decode -/

theorem encode_decodeMad (w : Word) : encode (decodeMad w) =
    .w32 (madWord (w.getLsbD 5) (w.getLsbD 4) (w.getLsbD 31) (w.getLsbD 30) (madFields w)) := by
  unfold decodeMad
  split <;> next h5 h4 h31 h30 => rw [h5, h4, h31, h30]; rfl

/-- A word's own type code and fields are the word without its ten ignored bits (R57). -/
theorem madWord_madFields (w : Word) :
    madWord (w.getLsbD 5) (w.getLsbD 4) (w.getLsbD 31) (w.getLsbD 30) (madFields w) = w &&& 0xFFFF00F3#32 := by
  apply BitVec.eq_of_getLsbD_eq
  intro i hi
  simp only [madWord, madFields, BitVec.getLsbD_and, BitVec.getLsbD_or, BitVec.getLsbD_shiftLeft,
    BitVec.getLsbD_setWidth, BitVec.getLsbD_extractLsb', Laws.getLsbD_bitAt]
  interval_cases i <;> simp

theorem wf_decodeMad {w : Word} (htag : bitsOf w 29 3 ≠ 4) : (decodeMad w).wf = true := by
  have hbit13 := hasBit13_of_no_tag htag
  unfold decodeMad
  split
  case h_3 | h_7 | h_11 | h_15 => next h31 h30 => exact hbit13 h31 h30
  all_goals rfl

theorem encode_decode_w32_of_tag {w : Word} (htag : bitsOf w 29 3 = 4) : encode (decode (.w32 w)) = .w32 w := by
  rw [decode_w32_of_tag htag]
  exact congrArg _ (pairWord_extractLsb' w)

theorem encode_decode_w32_of_no_tag {w : Word} (htag : bitsOf w 29 3 ≠ 4) :
    encode (decode (.w32 w)) = .w32 (w &&& 0xFFFF00F3#32) := by
  rw [decode_w32_of_no_tag htag, encode_decodeMad, madWord_madFields]

/-- Settles O55: RW16, PAIR32 and AC24 read every bit of the word, MAD32 all but ten. -/
theorem encodeOfDecodeClearsIgnoredBits : Obligations.EncodeOfDecodeClearsIgnoredBits := by
  refine ⟨encode_decode16, encode_decodeAc24, fun w => ?_⟩
  by_cases htag : bitsOf w 29 3 = 4
  · rw [if_pos htag, encode_decode_w32_of_tag htag]
  · rw [if_neg htag, encode_decode_w32_of_no_tag htag]

/-- Settles O54: each format's own fields meet what its rows ask, and it is encoded at its own width. -/
theorem everyDecodedInstructionIsWellFormed : Obligations.EveryDecodedInstructionIsWellFormed := by
  intro c
  cases c with
  | w16 h => exact ⟨(decode16_isRegisterWrite h).wf, congrArg CommandWord.width (encode_decode16 h)⟩
  | ac24 b => exact ⟨rfl, rfl⟩
  | w32 w =>
    by_cases htag : bitsOf w 29 3 = 4
    · refine ⟨?_, congrArg CommandWord.width (encode_decode_w32_of_tag htag)⟩
      rw [decode_w32_of_tag htag]
      exact (isPairWord_eq_hasPairTag w).symm.trans ((isPairWord_eq_true_iff w).mpr htag)
    · refine ⟨?_, by rw [encode_decode_w32_of_no_tag htag]; rfl⟩
      rw [decode_w32_of_no_tag htag]
      exact wf_decodeMad htag

end Sys2Proof.Machine
end

section
/-!
PROOFS. The numbers of the encoder's words, the opcode table's rows as a partition of the words, and the placing of a
word before the vectors that the caller presents.
-/

namespace Sys2Proof.Machine

/-! ## The encoded words as numbers -/

theorem w16_bits_toNat (h : Half) : (CommandWord.w16 h).bits.toNat = h.toNat := by
  have := h.isLt
  rw [CommandWord.bits, BitVec.toNat_setWidth]
  omega

theorem ac24_bits_toNat (b : BitVec 24) : (CommandWord.ac24 b).bits.toNat = b.toNat := by
  have := b.isLt
  rw [CommandWord.bits, BitVec.toNat_setWidth]
  omega

theorem rw16Word_bits_toNat (index value : Byte) :
    (CommandWord.w16 (rw16Word index value)).bits.toNat = index.toNat * 256 + value.toNat := by
  rw [w16_bits_toNat, rw16Word_toNat]

/-- A field is its upper part over its lower part. -/
theorem bitsOf_add {n : Nat} (v : BitVec n) (lo a b : Nat) :
    bitsOf v lo (a + b) = bitsOf v (lo + a) b * 2 ^ a + bitsOf v lo a := by
  rw [bitsOf, bitsOf, bitsOf, Nat.pow_add, Nat.mod_mul, Nat.pow_add, Nat.div_div_eq_div_mul, Nat.mul_comm (2 ^ a),
    Nat.add_comm]

/-- A word is the number of the ten fields that R50 cuts it into. -/
theorem word_toNat_eq_madFields (w : Word) : w.toNat =
    (w.getLsbD 31).toNat * 2 ^ 31 + (w.getLsbD 30).toNat * 2 ^ 30 + (extract w 16 14).toNat * 2 ^ 16 +
    (extract w 8 8).toNat * 2 ^ 8 + (w.getLsbD 7).toNat * 2 ^ 7 + (w.getLsbD 6).toNat * 2 ^ 6 +
    (w.getLsbD 5).toNat * 2 ^ 5 + (w.getLsbD 4).toNat * 2 ^ 4 + (extract w 2 2).toNat * 2 ^ 2 +
    (extract w 0 2).toNat := by
  simp only [extract_toNat, toNat_getLsbD_eq_bitsOf]
  have hw : w.toNat = bitsOf w 0 32 := by simp [bitsOf, Nat.mod_eq_of_lt w.isLt]
  have h2 : bitsOf w 0 32 = bitsOf w 2 30 * 2 ^ 2 + bitsOf w 0 2 := bitsOf_add w 0 2 30
  have h4 : bitsOf w 2 30 = bitsOf w 4 28 * 2 ^ 2 + bitsOf w 2 2 := bitsOf_add w 2 2 28
  have h5 : bitsOf w 4 28 = bitsOf w 5 27 * 2 ^ 1 + bitsOf w 4 1 := bitsOf_add w 4 1 27
  have h6 : bitsOf w 5 27 = bitsOf w 6 26 * 2 ^ 1 + bitsOf w 5 1 := bitsOf_add w 5 1 26
  have h7 : bitsOf w 6 26 = bitsOf w 7 25 * 2 ^ 1 + bitsOf w 6 1 := bitsOf_add w 6 1 25
  have h8 : bitsOf w 7 25 = bitsOf w 8 24 * 2 ^ 1 + bitsOf w 7 1 := bitsOf_add w 7 1 24
  have h16 : bitsOf w 8 24 = bitsOf w 16 16 * 2 ^ 8 + bitsOf w 8 8 := bitsOf_add w 8 8 16
  have h30 : bitsOf w 16 16 = bitsOf w 30 2 * 2 ^ 14 + bitsOf w 16 14 := bitsOf_add w 16 14 2
  have h31 : bitsOf w 30 2 = bitsOf w 31 1 * 2 ^ 1 + bitsOf w 30 1 := bitsOf_add w 30 1 1
  omega

/-- The formula of R62, the ignored bits zero. -/
theorem madWord_toNat (cd3 cd2 cd1 cd0 : Bool) (f : MadFields) :
    (madWord cd3 cd2 cd1 cd0 f).toNat = madNumber (typeCode cd3 cd2 cd1 cd0).toNat f := by
  obtain ⟨hhigh, hlow⟩ := madWord_ignored cd3 cd2 cd1 cd0 f
  have h3 := cd3.toNat_lt
  have h2 := cd2.toNat_lt
  have h1 := cd1.toNat_lt
  have h0 := cd0.toNat_lt
  rw [word_toNat_eq_madFields, madNumber, typeCode_toNat]
  simp only [extract, hhigh, hlow, getLsbD_madWord_31, getLsbD_madWord_30, getLsbD_madWord_7, getLsbD_madWord_6,
    getLsbD_madWord_5, getLsbD_madWord_4, madWord_aLo, madWord_aHi, BitVec.toNat_ofNat]
  omega

/-- Settles O57: each row's word is a sum of its fields at their places. -/
theorem encodedWordsFollowTheSpecsFormulas : Obligations.EncodedWordsFollowTheSpecsFormulas := by
  refine ⟨fun v => ?_, rw16Word_bits_toNat, pairWord_toNat, fun f => ?_, fun f => ?_, fun low mid high =>
    (ac24_bits_toNat _).trans (ac24Word_toNat low mid high)⟩
  · have row (index : Byte) := rw16Word_bits_toNat index v
    exact ⟨row 0x80#8, row 0x81#8, row 0x82#8, row 0x83#8, row 0x84#8, row 0x85#8, row 0x86#8, row 0x87#8, row 0x88#8,
      row 0x89#8, row 0x8A#8, row 0x8B#8, row 0x8C#8, row 0x8D#8, row 0x8E#8, row 0x8F#8, row 0x90#8, row 0x91#8,
      row 0x92#8, row 0x93#8, row 0x94#8, row 0x95#8, row 0x96#8, row 0x97#8⟩
  · have row (cd3 cd2 cd1 cd0 : Bool) := madWord_toNat cd3 cd2 cd1 cd0 f
    exact ⟨row false false false false, row false false false true, row false false true true,
      row false true false false, row false true false true, row true false false false, row true true false false,
      row true true false true⟩
  · have row (cd3 cd2 cd1 cd0 : Bool) := madWord_toNat cd3 cd2 cd1 cd0 f
    exact ⟨row false false true false, row false true true false, row false true true true, row true false false true,
      row true false true false, row true false true true, row true true true false, row true true true true⟩

/-- Settles O58: the decoder evaluated on eight words. -/
theorem sampleWordsDecodeAsWritten : Obligations.SampleWordsDecodeAsWritten := by
  refine ⟨?_, ?_, ?_, ?_, ?_, ?_, ?_, ?_⟩ <;> decide

/-! ## The opcode table -/

open Sys2Proof.Laws.EncodingInRow in
/-- The per-row statements together: the word of a well-formed instruction is in the row of its mnemonic (R55, R63). -/
theorem encodingInRow : ∀ i : Instr, Statement i
  | .reg80 v => reg80 v | .reg81 v => reg81 v | .reg82 v => reg82 v | .reg83 v => reg83 v | .reg84 v => reg84 v
  | .reg85 v => reg85 v | .reg86 v => reg86 v | .reg87 v => reg87 v | .reg88 v => reg88 v | .reg89 v => reg89 v
  | .reg8A v => reg8A v | .reg8B v => reg8B v | .reg8C v => reg8C v | .reg8D v => reg8D v | .reg8E v => reg8E v
  | .reg8F v => reg8F v | .reg90 v => reg90 v | .reg91 v => reg91 v | .reg92 v => reg92 v | .reg93 v => reg93 v
  | .reg94 v => reg94 v | .reg95 v => reg95 v | .reg96 v => reg96 v | .reg97 v => reg97 v
  | .regUnk index v => regUnk index v | .pair i0 v0 i1 v1 => pair i0 v0 i1 v1 | .madVramRead f => madVramRead f
  | .madVramWrite f => madVramWrite f | .madUnk2 f => madUnk2 f | .madCramWrite f => madCramWrite f
  | .madVsramRead f => madVsramRead f | .madVsramWrite f => madVsramWrite f | .madUnk6 f => madUnk6 f
  | .madUnk7 f => madUnk7 f | .madCramRead f => madCramRead f | .madUnk9 f => madUnk9 f | .madUnkA f => madUnkA f
  | .madUnkB f => madUnkB f | .madVramByteRead f => madVramByteRead f | .madVramByteReadAlt f => madVramByteReadAlt f
  | .madUnkE f => madUnkE f | .madUnkF f => madUnkF f | .compose low mid high => compose low mid high

/-- Two rows that differ in a bit which both masks keep. -/
abbrev RowsApart (r r' : OpcodeRow) : Prop := r.matchBits &&& r'.mask ≠ r'.matchBits &&& r.mask

theorem not_rowsApart_of_matches {r r' : OpcodeRow} {w : Word} (h : r.matches w = true) (h' : r'.matches w = true) :
    ¬RowsApart r r' := by
  rw [OpcodeRow.matches, beq_iff_eq] at h h'
  rw [RowsApart, not_not, ← h, ← h', BitVec.and_assoc, BitVec.and_assoc, BitVec.and_comm r.mask]

/-- Of rows that are apart, a word matches no other than the one it matches. -/
theorem filter_matches_eq_singleton {rows : List OpcodeRow} {r : OpcodeRow} {w : Word} (hrows : rows.Pairwise RowsApart)
    (hr : r ∈ rows) (hw : r.matches w = true) : rows.filter (fun r => r.matches w) = [r] := by
  induction rows with
  | nil => cases hr
  | cons r' rows ih =>
    obtain ⟨hapart, hrows⟩ := List.pairwise_cons.mp hrows
    obtain rfl | hr := List.mem_cons.mp hr
    · have hrest : rows.filter (fun r => r.matches w) = [] :=
        List.filter_eq_nil_iff.mpr fun r' hr' h' => not_rowsApart_of_matches hw h' (hapart r' hr')
      rw [List.filter_cons, if_pos hw, hrest]
    · have hw' : ¬r'.matches w = true := fun h' => not_rowsApart_of_matches h' hw (hapart r hr)
      rw [List.filter_cons, if_neg hw', ih hrows hr]

theorem rows32_apart : rows32.Pairwise RowsApart := by decide

theorem rowsRw16_apart : rowsRw16.Pairwise RowsApart := by decide

/-- No row of 32 bits asks for an ignored bit (R57). -/
theorem matches_of_matches_and {r : OpcodeRow} {w : Word} (hr : r ∈ rows32)
    (h : r.matches (w &&& 0xFFFF00F3#32) = true) : r.matches w = true := by
  have hmask : ∀ r ∈ rows32, 0xFFFF00F3#32 &&& r.mask = r.mask := by decide
  rwa [OpcodeRow.matches, BitVec.and_assoc, hmask r hr] at h

/-- A 32-bit word is in the row of the instruction it decodes to. -/
theorem exists_row32 (w : Word) :
    ∃ r ∈ rows32, r.mnemonic = (decode (.w32 w)).mnemonic ∧ r.matches w = true := by
  obtain ⟨hwf, hwidth⟩ := everyDecodedInstructionIsWellFormed (.w32 w)
  obtain ⟨-, -, hencode⟩ := encodeOfDecodeClearsIgnoredBits
  obtain ⟨r, hr, hmnemonic, hrwidth, hmatches⟩ := encodingInRow _ hwf
  have h16 : ∀ r ∈ rowsRw16 ++ [rowRegUnk], r.width ≠ 32 := by decide
  have h24 : ∀ r ∈ [rowCompose], r.width ≠ 32 := by decide
  rw [hwidth] at hrwidth
  simp only [List.mem_append (s := rowsRw16 ++ [rowRegUnk] ++ rows32), List.mem_append (t := rows32)] at hr
  obtain (hr | hr) | hr := hr
  · exact absurd hrwidth (h16 r hr)
  · refine ⟨r, hr, hmnemonic, ?_⟩
    rw [hencode] at hmatches
    split_ifs at hmatches
    · exact hmatches
    · exact matches_of_matches_and hr hmatches
  · exact absurd hrwidth (h24 r hr)

theorem exists_of_mnemonic_eq_regUnk {i : Instr} (h : i.mnemonic = rowRegUnk.mnemonic) :
    ∃ index value, i = .regUnk index value := by
  cases i with
  | regUnk index value => exact ⟨index, value, rfl⟩
  | _ => simp [Instr.mnemonic, rowRegUnk] at h

/-- A 16-bit word that is no REGUNK is in the row of the instruction it decodes to. -/
theorem exists_rowRw16 {h : Half} (hunk : (decode (.w16 h)).mnemonic ≠ rowRegUnk.mnemonic) :
    ∃ r ∈ rowsRw16, r.mnemonic = (decode (.w16 h)).mnemonic ∧ r.matches (h.setWidth 32) = true := by
  obtain ⟨hwf, hwidth⟩ := everyDecodedInstructionIsWellFormed (.w16 h)
  obtain ⟨r, hr, hmnemonic, hrwidth, hmatches⟩ := encodingInRow _ hwf
  have hwide : ∀ r ∈ rows32 ++ [rowCompose], r.width ≠ 16 := by decide
  rw [hwidth] at hrwidth
  rw [List.append_assoc, List.mem_append, List.mem_append, List.mem_singleton] at hr
  obtain (hr | rfl) | hr := hr
  · refine ⟨r, hr, hmnemonic, ?_⟩
    rwa [decode, encode_decode16] at hmatches
  · exact absurd hmnemonic.symm hunk
  · exact absurd hrwidth (hwide r hr)

/-- A row with a mask takes words of one listed index only (R54). -/
theorem isListedIndex_of_matches {r : OpcodeRow} {h : Half} (hr : r ∈ rowsRw16)
    (hmatches : r.matches (h.setWidth 32) = true) : isListedIndex (h.extractLsb' 8 8) = true := by
  have hrow : ∀ r ∈ rowsRw16, r.mask = 0xFF00#32 ∧ isListedIndex (r.matchBits.extractLsb' 8 8) = true := by decide
  obtain ⟨hmask, hlisted⟩ := hrow r hr
  have hindex : (h.setWidth 32 &&& 0xFF00#32).extractLsb' 8 8 = h.extractLsb' 8 8 := by
    ext i hi
    interval_cases i <;> simp
  rw [OpcodeRow.matches, beq_iff_eq, hmask] at hmatches
  rwa [← hindex, hmatches]

/-- Only a word of an unlisted index decodes to REGUNK. -/
theorem not_isListedIndex_of_decode16 {h : Half} {index value : Byte} (hdec : decode16 h = .regUnk index value) :
    isListedIndex (h.extractLsb' 8 8) = false := by
  have hwf := (decode16_isRegisterWrite h).wf
  have hencode := encode_decode16 h
  rw [hdec] at hwf hencode
  obtain rfl := CommandWord.w16.inj hencode
  rw [rw16Word_index]
  exact (Bool.not_eq_true' _).mp hwf

/-- Settles O56: a word is in the row of its instruction, and the rows are apart; a word of REGUNK has no listed index,
so no row with a mask takes it. -/
theorem opcodeRowsPartitionTheWords : Obligations.OpcodeRowsPartitionTheWords := by
  refine ⟨fun w => ?_, fun h => ?_⟩
  · obtain ⟨r, hr, hmnemonic, hmatches⟩ := exists_row32 w
    rw [filter_matches_eq_singleton rows32_apart hr hmatches, List.map_singleton, hmnemonic]
  · by_cases hunk : (decode (.w16 h)).mnemonic = rowRegUnk.mnemonic
    · obtain ⟨index, value, hdec⟩ := exists_of_mnemonic_eq_regUnk hunk
      have hnone : rowsRw16.filter (fun r => r.matches (h.setWidth 32)) = [] :=
        List.filter_eq_nil_iff.mpr fun r hr hmatches =>
          ne_of_isListedIndex_eq_false (not_isListedIndex_of_decode16 hdec) (isListedIndex_of_matches hr hmatches) rfl
      rw [if_pos hunk, hnone, List.map_nil]
    · obtain ⟨r, hr, hmnemonic, hmatches⟩ := exists_rowRw16 hunk
      rw [if_neg hunk, filter_matches_eq_singleton rowsRw16_apart hr hmatches, List.map_singleton, hmnemonic]

/-! ## Every descriptor has a word -/

/-- CLASSIFY_MAD of an encoded word is the descriptor of its type code and fields. -/
theorem classifyMad_madWord (cd3 cd2 cd1 cd0 : Bool) (f : MadFields) : classifyMad (madWord cd3 cd2 cd1 cd0 f) =
    ⟨typeCode cd3 cd2 cd1 cd0, portOf (typeCode cd3 cd2 cd1 cd0), madAddress f.aHi f.aLo, f.dma, f.copy⟩ := by
  rw [classifyMad, extract, extract, madWord_aHi, madWord_aLo, getLsbD_madWord_31, getLsbD_madWord_30,
    getLsbD_madWord_5, getLsbD_madWord_4, getLsbD_madWord_7, getLsbD_madWord_6]

theorem typeCode_getLsbD (code : BitVec 4) :
    typeCode (code.getLsbD 3) (code.getLsbD 2) (code.getLsbD 1) (code.getLsbD 0) = code := by
  revert code
  decide

theorem madAddress_extract (address : BitVec 16) :
    madAddress (extract address 14 2) (extract address 0 14) = address := by
  have := address.isLt
  apply BitVec.eq_of_toNat_eq
  rw [madAddress_toNat, extract_toNat, extract_toNat]
  unfold bitsOf
  omega

/-- Settles O29: the word is the encoder's, of the type code's bits and the address's two parts. -/
theorem everyDescriptorIsReachable : Obligations.EveryDescriptorIsReachable := by
  intro code address dma copy hcode
  have hbit13 (h1 : code.getLsbD 1 = true) (h0 : code.getLsbD 0 = false) :
      MadFields.hasBit13 ⟨extract address 0 14, extract address 14 2, dma, copy⟩ = true := by
    rw [getLsbD_eq_true_iff_bitsOf] at h1
    rw [← Bool.not_eq_true, getLsbD_eq_true_iff_bitsOf] at h0
    have haddress : bitsOf address 13 1 = 1 := hcode (by unfold bitsOf at *; omega)
    rw [← getLsbD_eq_true_iff_bitsOf] at haddress
    simpa [MadFields.hasBit13, extract] using haddress
  refine ⟨madWord (code.getLsbD 3) (code.getLsbD 2) (code.getLsbD 1) (code.getLsbD 0)
    ⟨extract address 0 14, extract address 14 2, dma, copy⟩, fun s =>
    ⟨_, exec_decode_w32_of_no_tag (madWord_no_tag _ _ hbit13) s, rfl, ?_⟩⟩
  rw [State.driveResult_res, ResultPorts.ofMad_mad, classifyMad_madWord, typeCode_getLsbD, madAddress_extract]

/-! ## Placing a word -/

/-- The instruction on the ports that take a word of this width. -/
def instrOfWidth (nbits : Nat) (x : Inputs) : Instr :=
  if nbits = 24 then fetchCompose x else fetchInstr x

theorem decodeTableWord_of_other_width {nbits : Nat} (h16 : nbits ≠ 16) (h24 : nbits ≠ 24) (h32 : nbits ≠ 32)
    (w : Nat) : decodeTableWord nbits w = none := by
  simp only [decodeTableWord, commandWordOf]

theorem withWord_of_other_width {nbits : Nat} (h16 : nbits ≠ 16) (h24 : nbits ≠ 24) (h32 : nbits ≠ 32) (x : Inputs)
    (w : Nat) : x.withWord nbits w = none := by
  simp only [Inputs.withWord]

/-- The low half of a port that a number is put on is that number's low half (R74). -/
theorem ofNat_extractLsb'_low (w : Nat) : (BitVec.ofNat 32 w).extractLsb' 0 16 = BitVec.ofNat 16 w := by
  apply BitVec.eq_of_toNat_eq
  rw [← extract, extract_toNat, bitsOf, BitVec.toNat_ofNat, BitVec.toNat_ofNat]
  omega

/-- The ports take exactly the numbers that the table's decoder reads, and hold the instruction it reads (log 17). -/
theorem decodeTableWord_eq_withWord (x : Inputs) (nbits w : Nat) :
    decodeTableWord nbits w = (x.withWord nbits w).map (instrOfWidth nbits) := by
  by_cases h16 : nbits = 16
  · subst h16
    simp only [decodeTableWord, commandWordOf, Inputs.withWord]
    split_ifs
    · exact congrArg (fun h => some (decode (.w16 h))) (ofNat_extractLsb'_low w).symm
    · rfl
  by_cases h24 : nbits = 24
  · subst h24
    simp only [decodeTableWord, commandWordOf, Inputs.withWord]
    split_ifs
    · rw [Option.map_some, instrOfWidth, if_pos rfl, fetchCompose_eq]
      rfl
    · rfl
  by_cases h32 : nbits = 32
  · subst h32
    simp only [decodeTableWord, commandWordOf, Inputs.withWord]
    split_ifs <;> rfl
  · rw [decodeTableWord_of_other_width h16 h24 h32, withWord_of_other_width h16 h24 h32]
    rfl

/-- Placing a word changes the ports that take it and no other. -/
theorem withWord_keeps {x y : Inputs} {nbits w : Nat} (h : x.withWord nbits w = some y) :
    y.extendedVram = x.extendedVram ∧ y.mode320 = x.mode320 ∧
    (nbits ≠ 24 → y.acLow = x.acLow ∧ y.acMid = x.acMid ∧ y.acHigh = x.acHigh) ∧
    (nbits = 24 → y.word = x.word ∧ y.width32 = x.width32) := by
  unfold Inputs.withWord at h
  split at h
  case h_4 => cases h
  all_goals
    split_ifs at h
    obtain rfl := Option.some.inj h
    simp

/-- Settles O59: a word the ports take stands on them in the caller's next vector, any other number presents nothing. -/
theorem placedWordIsTheNextInstruction : Obligations.PlacedWordIsTheNextInstruction := by
  intro s nbits w
  rw [decodeTableWord_eq_withWord s.inp, State.withFetchWord]
  cases hplaced : s.inp.withWord nbits w with
  | none => exact ⟨nofun, fun _ => placeWord_of_none s nbits w hplaced⟩
  | some y =>
    obtain ⟨hxv, hm320, hac, hword⟩ := withWord_keeps hplaced
    rw [placeWord_of_some s nbits w y hplaced]
    refine ⟨fun i hi => ?_, nofun⟩
    exact ⟨Option.some.inj hi, hxv, hm320, hac, hword, rfl, rfl, rfl⟩

end Sys2Proof.Machine
end

section
/-!
PROOFS. The remaining obligations about DMA lengths and the address composer, and the bounds of the computed outputs.
-/

namespace Sys2Proof.Machine

/-! ## DMA lengths -/

/-- Settles O23: the correlator answers with a length and its double, or not at all, which leaves zeros. -/
theorem byteCountTwiceLengthElseZero : Obligations.ByteCountTwiceLengthElseZero := by
  intro i0 v0 i1 v1 s
  refine ⟨_, exec_pair s i0 v0 i1 v1, ?_⟩
  obtain ⟨hA, hB, hc⟩ | ⟨hA, hB, hc⟩ | ⟨-, -, hc⟩ := correlate_cases ⟨i0, v0⟩ ⟨i1, v1⟩
  · exact ⟨by simp [pairPorts, hc, transferLength, dmaByteCount_toNat], fun h _ => absurd ⟨hA, hB⟩ h⟩
  · exact ⟨by simp [pairPorts, hc, transferLength, dmaByteCount_toNat], fun _ h => absurd ⟨hA, hB⟩ h⟩
  · simp [pairPorts, hc]

/-- Settles O25: SINGLE and MEMACC results have no length, and a PAIR's length outputs are the correlator's answer. -/
theorem noLengthOutsideAPair : Obligations.NoLengthOutsideAPair := by
  refine ⟨fun i s t ht hcompose hpair => ?_, fun i0 v0 i1 v1 s s' t t' ht ht' => ?_⟩
  · obtain ⟨low, mid, high, rfl, -⟩ | ⟨_, _, _, _, _, _, h⟩ | ⟨i0, v0, i1, v1, rfl, -⟩ | ⟨_, _, _, _, h⟩ :=
      exec_cases i s
    · exact absurd ⟨low, mid, high, rfl⟩ hcompose
    · obtain rfl := Host.Outcome.next.inj (h.symm.trans ht)
      exact ⟨rfl, rfl, rfl⟩
    · exact absurd rfl (hpair i0 v0 i1 v1)
    · obtain rfl := driveMad_eq_next (h.symm.trans ht)
      exact ⟨rfl, rfl, rfl⟩
  · obtain rfl := execPair_eq_next ht
    obtain rfl := execPair_eq_next ht'
    simp [pairPorts]

/-! ## The address composer -/

/-- Settles O30: the result is twice the assembled number, so it is even. -/
theorem composeShiftsTheAssembledBytes : Obligations.ComposeShiftsTheAssembledBytes := by
  intro low mid high s
  refine ⟨_, exec_compose s low mid high, composeAddress_toNat low mid high, ?_⟩
  rw [State.driveAc_acAddress, bitsOf, composeAddress_toNat]
  omega

/-- Settles O31: a number on a port of eight bits is the number mod 256. -/
theorem composeMasksWiderNumbers : Obligations.ComposeMasksWiderNumbers := by
  intro low mid high
  rw [composeNumbers, composeAddress_toNat, BitVec.toNat_ofNat, BitVec.toNat_ofNat, BitVec.toNat_ofNat]

/-- The formula is the reading that COMPOSE follows (R162). -/
theorem composeUnder_formula_toNat (low mid high : Byte) : (composeUnder .formula low mid high).toNat =
    2 * (high.toNat * 65536 + mid.toNat * 256 + low.toNat) := composeAddress_toNat low mid high

theorem composeUnder_resultMask23_toNat (low mid high : Byte) : (composeUnder .resultMask23 low mid high).toNat =
    (composeUnder .formula low mid high).toNat % 2 ^ 23 := by
  rw [composeUnder, composeUnder, BitVec.toNat_and]
  exact Nat.and_two_pow_sub_one_eq_mod _ 23

theorem composeUnder_highMask7_toNat (low mid high : Byte) : (composeUnder .highMask7 low mid high).toNat =
    2 * (high.toNat % 128 * 65536 + mid.toNat * 256 + low.toNat) := by
  have hmask : (high &&& 0x7F#8).toNat = high.toNat % 128 := by
    rw [BitVec.toNat_and]
    exact Nat.and_two_pow_sub_one_eq_mod _ 7
  rw [← hmask]
  exact composeUnder_formula_toNat low mid (high &&& 0x7F#8)

/-- Settles O32: both masked readings drop bits which are 0 where `high < 0x40`. -/
theorem composeReadingsAgreeBelow40 : Obligations.ComposeReadingsAgreeBelow40 := by
  refine ⟨fun r low mid high hhigh => BitVec.eq_of_toNat_eq ?_, fun low mid high =>
    ⟨composeUnder_resultMask23_toNat low mid high, composeUnder_highMask7_toNat low mid high⟩,
    fun low mid high s => ⟨_, exec_compose s low mid high, rfl⟩⟩
  have hlow := low.isLt
  have hmid := mid.isLt
  cases r with
  | formula => rfl
  | resultMask23 =>
    rw [composeUnder_resultMask23_toNat, composeUnder_formula_toNat]
    omega
  | highMask7 =>
    rw [composeUnder_highMask7_toNat, composeUnder_formula_toNat]
    omega

/-! ## Bounds -/

/-- A field of `w` bits, shifted, is at most the field of ones at that place (R167). -/
theorem decoded_slot_f0_le (v : Byte) {lo w shift : Nat} (h : w + shift ≤ 17) :
    (decoded (slot v lo w shift)).f0.toNat ≤ (2 ^ w - 1) * 2 ^ shift := by
  obtain ⟨-, hf0, -⟩ := decoded_slot_holds v (lo := lo) h
  rw [hf0]
  exact Nat.mul_le_mul_right _ (Nat.le_sub_one_of_lt (bitsOf_lt v lo w))

/-- Settles O51: each result is a shifted field or a number of bytes; the bounds are its values at all ones. -/
theorem noResultOverflowsItsPort : Obligations.NoResultOverflowsItsPort := by
  refine ⟨fun v xv => ⟨?_, decoded_slot_f0_le v (by decide), decoded_slot_f0_le v (by decide),
    decoded_slot_f0_le v (by decide), decoded_slot_f0_le v (by decide)⟩, fun v93 v94 => ?_, fun low mid high => ?_, ?_⟩
  · cases xv with
    | false => exact decoded_slot_f0_le v (by decide)
    | true => exact decoded_slot_f0_le v (by decide)
  · have hlength := (transferLength v93 v94).length.isLt
    have hcount : (transferLength v93 v94).byteCount.toNat = 2 * (transferLength v93 v94).length.toNat :=
      dmaByteCount_toNat _
    omega
  · have := low.isLt
    have := mid.isLt
    have := high.isLt
    rw [composeAddress_toNat]
    omega
  · decide

end Sys2Proof.Machine
end
